-- ==== Sys2Proof/Word.lean ====
section
/-! DEFINITION. The types of the block's values: a row (16 bits), the command word and response value
(32 bits), the 48-bit display chain, the piece types. `spec/00_scope.md` R7, R10. The widths of the counters
are configuration (R8). -/

namespace Sys2Proof

/-- One 16-bit row of a row buffer, bit 0 the least significant (R10). -/
abbrev Row := BitVec 16

/-- A command word at the host port (R90). -/
abbrev CmdWord := BitVec 32

/-- The value part of a response (R95). -/
abbrev RespWord := BitVec 32

/-- The shift-register chain and its latched outputs, 48 bits (R35, R36). -/
abbrev Chain := BitVec 48

/-- A piece number, the value of `CUR`, of `NEXT` and of a draw: 0..6; "the value 7 cannot be stored" (R26). -/
abbrev Piece := Fin 7

/-- The seven variants (R7, R16). Which number stands for which is configuration (R8). -/
inductive Variant where
  | i | j | l | o | s | t | z
deriving DecidableEq, Repr

/-- The order in which the parts of a word leave on the serial channel (R8, R62). -/
inductive SerialOrder where
  | mostFirst | leastFirst
deriving DecidableEq, Repr

/-- 32 rows of 16 bits: terrain, active, frame (R20 to R22). -/
abbrev Rows := Vector Row 32

/-- The vector whose element i is `f i`. Irreducible, so that comparing two states never computes it; the kernel
computes it all the same. -/
@[irreducible] def tabulate {α : Type} {n : Nat} (f : Fin n → α) : Vector α n := Vector.ofFn f

end Sys2Proof
end

