-- ==== Sys2Proof/Syntax.lean ====
section
/-! DEFINITION. The operations of the block, one constructor per row of `spec/opcode_table.json`: the
thirty host commands with their operand fields as the command word carries them (R90 to R93), and the TICK
event (R98). The spec's own assembler spelling (R99) and its pseudo-instructions (R100). -/

namespace Sys2Proof

/-- A decoded operation. Operands are the raw fields `a` (8 bits, split as `p`, `k` for `WRG` and `RDG`)
and `d` (16 bits) of R92: a value outside the legal range of R93 is a term of this type, and the command
refuses it. -/
inductive Instr where
  | nop
  | wrt (i : BitVec 8) (v : Row)
  | rdt (i : BitVec 8)
  | wra (i : BitVec 8) (v : Row)
  | rda (i : BitVec 8)
  | wrf (i : BitVec 8) (v : Row)
  | rdf (i : BitVec 8)
  | wrp (k : BitVec 8) (v : Row)
  | rdp (k : BitVec 8)
  | wrg (p : BitVec 4) (k : BitVec 4) (v : Row)
  | rdg (p : BitVec 4) (k : BitVec 4)
  | rdcsr (n : BitVec 8)
  | wrcsr (n : BitVec 8) (v : BitVec 16)
  | clrms
  | clrdb
  | compose
  | glyphs
  | preview
  | candesc
  | canshl
  | canshr
  | shl
  | shr
  | desc (r : BitVec 8)
  | lock
  | rot
  | isfull (i : BitVec 8)
  | lclr
  | spawn (r : BitVec 8)
  | init (r : BitVec 8)
  | tick
deriving DecidableEq, Repr

/-- The pseudo-instructions of R100. -/
inductive Pseudo where
  | canshiftL | canshiftR | shiftL | shiftR | rdstatus | rdscore
deriving DecidableEq, Repr

/-- What a pseudo-instruction expands to (R100). -/
def Pseudo.expand : Pseudo → Instr
  | .canshiftL => .canshl
  | .canshiftR => .canshr
  | .shiftL => .shl
  | .shiftR => .shr
  | .rdstatus => .rdcsr 0x00#8
  | .rdscore => .rdcsr 0x04#8

/-- The mnemonic of an operation, as `spec/opcode_table.json` spells it. -/
def Instr.mnemonic : Instr → String
  | .nop => "NOP"
  | .wrt _ _ => "WRT"
  | .rdt _ => "RDT"
  | .wra _ _ => "WRA"
  | .rda _ => "RDA"
  | .wrf _ _ => "WRF"
  | .rdf _ => "RDF"
  | .wrp _ _ => "WRP"
  | .rdp _ => "RDP"
  | .wrg _ _ _ => "WRG"
  | .rdg _ _ => "RDG"
  | .rdcsr _ => "RDCSR"
  | .wrcsr _ _ => "WRCSR"
  | .clrms => "CLRMS"
  | .clrdb => "CLRDB"
  | .compose => "COMPOSE"
  | .glyphs => "GLYPHS"
  | .preview => "PREVIEW"
  | .candesc => "CANDESC"
  | .canshl => "CANSHL"
  | .canshr => "CANSHR"
  | .shl => "SHL"
  | .shr => "SHR"
  | .desc _ => "DESC"
  | .lock => "LOCK"
  | .rot => "ROT"
  | .isfull _ => "ISFULL"
  | .lclr => "LCLR"
  | .spawn _ => "SPAWN"
  | .init _ => "INIT"
  | .tick => "TICK"

/-- The operands of an operation in the order the assembler writes them: `a`, then `d`; `p`, `k`, then `d`
for `WRG` and `RDG` (R99). -/
def Instr.operands : Instr → List Nat
  | .wrt i v | .wra i v | .wrf i v | .wrp i v | .wrcsr i v => [i.toNat, v.toNat]
  | .wrg p k v => [p.toNat, k.toNat, v.toNat]
  | .rdg p k => [p.toNat, k.toNat]
  | .rdt i | .rda i | .rdf i | .rdp i | .rdcsr i | .desc i | .isfull i | .spawn i | .init i => [i.toNat]
  | .nop | .clrms | .clrdb | .compose | .glyphs | .preview | .candesc | .canshl | .canshr | .shl | .shr
  | .lock | .rot | .lclr | .tick => []

/-- One line of the assembler syntax of R99, numbers in decimal. -/
def Instr.assembly (i : Instr) : String :=
  match i.operands with
  | [] => i.mnemonic
  | ops => i.mnemonic ++ " " ++ String.intercalate ", " (ops.map fun n => toString n)

end Sys2Proof
end

