-- ==== Sys2Proof/WellFormed.lean ====
section
/-! DEFINITION. Well-formedness of an operation: its operand fields lie in the legal ranges of R93 and, for
`RDCSR` and `WRCSR`, the table of R37. What falls outside is still decoded and is refused by the command
itself (R91, R94 c and d). -/

namespace Sys2Proof

/-- A row index, 0..31. -/
def legalRow (i : BitVec 8) : Bool := decide (i.toNat ≤ 31)

/-- A preview row index, 0..1. -/
def legalPreview (k : BitVec 8) : Bool := decide (k.toNat ≤ 1)

/-- A digit place 0..2 and a glyph row 0..4. -/
def legalGlyph (p k : BitVec 4) : Bool := decide (p.toNat ≤ 2) && decide (k.toNat ≤ 4)

/-- A draw, 0..6. -/
def legalDraw (r : BitVec 8) : Bool := decide (r.toNat ≤ 6)

/-- A CSR number of the table of R37, `0x00` to `0x0A`. -/
def legalCsr (n : BitVec 8) : Bool := decide (n.toNat ≤ 0x0A)

/-- A writable CSR with a legal value: `SCORE` any, `ANCHOR_X` 0..15, `ANCHOR_Y` 0..31, `CUR` and `NEXT`
0..6 (R37). -/
def legalCsrWrite (n : BitVec 8) (v : BitVec 16) : Bool :=
  n == 0x04#8 || (n == 0x06#8 && decide (v.toNat ≤ 15)) || (n == 0x07#8 && decide (v.toNat ≤ 31)) ||
    ((n == 0x08#8 || n == 0x09#8) && decide (v.toNat ≤ 6))

/-- The operands of an operation are legal (R93, R37). -/
def Instr.wf : Instr → Bool
  | .wrt i _ | .rdt i | .wra i _ | .rda i | .wrf i _ | .rdf i | .isfull i => legalRow i
  | .wrp k _ | .rdp k => legalPreview k
  | .wrg p k _ | .rdg p k => legalGlyph p k
  | .rdcsr n => legalCsr n
  | .wrcsr n v => legalCsrWrite n v
  | .desc r | .spawn r | .init r => legalDraw r
  | .nop | .clrms | .clrdb | .compose | .glyphs | .preview | .candesc | .canshl | .canshr | .shl | .shr
  | .lock | .rot | .lclr | .tick => true

end Sys2Proof
end

