-- ==== Sys2Proof/Decode.lean ====
section
/-! DEFINITION. Decoding of what selects an operation (a command word at the port, or the tick line), total
and rejecting by name, then the encoder, both from the tables of `spec/30_encoding.md` R90 to R94, R98. -/

namespace Sys2Proof

/-- The three formats of R91: no operand, index only, index and data. -/
inductive Format where
  | n | a | ad
deriving DecidableEq, Repr

/-- The thirty opcodes of R93. -/
inductive Opcode where
  | nop | wrt | rdt | wra | rda | wrf | rdf | wrp | rdp | wrg | rdg | rdcsr | wrcsr | clrms | clrdb
  | compose | glyphs | preview | candesc | canshl | canshr | shl | shr | desc | lock | rot | isfull | lclr
  | spawn | init
deriving DecidableEq, Repr

/-- Why a command word is no command (R94 a, b), or a selection is none. -/
inductive DecodeError where
  /-- The `op` field is not in the table of R93. -/
  | reservedOpcode
  /-- A field the format does not use is not zero. -/
  | unusedFieldNotZero
deriving DecidableEq, Repr

/-- What selects an operation: a 32-bit command word at the port (R90), or the tick line asserted for one
period (R98). -/
inductive Selector where
  | command (w : CmdWord)
  | tickLine
deriving DecidableEq, Repr

/-- The answer of the decoder. -/
inductive Decoded where
  | ok (i : Instr)
  | rejected (e : DecodeError)
deriving DecidableEq, Repr

namespace Opcode

/-- The value of the `op` field (R93). -/
def code : Opcode → BitVec 8
  | nop => 0x00#8
  | wrt => 0x10#8
  | rdt => 0x11#8
  | wra => 0x12#8
  | rda => 0x13#8
  | wrf => 0x14#8
  | rdf => 0x15#8
  | wrp => 0x16#8
  | rdp => 0x17#8
  | wrg => 0x18#8
  | rdg => 0x19#8
  | rdcsr => 0x20#8
  | wrcsr => 0x21#8
  | clrms => 0x22#8
  | clrdb => 0x23#8
  | compose => 0x30#8
  | glyphs => 0x31#8
  | preview => 0x32#8
  | candesc => 0x40#8
  | canshl => 0x41#8
  | canshr => 0x42#8
  | shl => 0x43#8
  | shr => 0x44#8
  | desc => 0x45#8
  | lock => 0x46#8
  | rot => 0x50#8
  | isfull => 0x60#8
  | lclr => 0x61#8
  | spawn => 0x70#8
  | init => 0x71#8

/-- Every opcode, in the order of R93. -/
def all : List Opcode :=
  [nop, wrt, rdt, wra, rda, wrf, rdf, wrp, rdp, wrg, rdg, rdcsr, wrcsr, clrms, clrdb] ++
    [compose, glyphs, preview, candesc, canshl, canshr, shl, shr, desc, lock, rot, isfull, lclr, spawn, init]

/-- The format of an opcode (R93). -/
def format : Opcode → Format
  | wrt | wra | wrf | wrp | wrg | wrcsr => .ad
  | rdt | rda | rdf | rdp | rdg | rdcsr | desc | isfull | spawn | init => .a
  | nop | clrms | clrdb | compose | glyphs | preview | candesc | canshl | canshr | shl | shr | lock | rot
  | lclr => .n

/-- The read commands, which `HALT = 1` does not refuse (R263). -/
def isRead : Opcode → Bool
  | nop | rdt | rda | rdf | rdp | rdg | rdcsr | isfull | candesc | canshl | canshr => true
  | wrt | wra | wrf | wrp | wrg | wrcsr | clrms | clrdb | compose | glyphs | preview | shl | shr | desc
  | lock | rot | lclr | spawn | init => false

/-- The opcode of an `op` field, `none` where the value is reserved (R94 a). -/
def ofCode (b : BitVec 8) : Option Opcode := all.find? fun o => o.code == b

/-- The operation of an opcode with its operand fields; `WRG` and `RDG` split `a` (R92). -/
def instr (o : Opcode) (a : BitVec 8) (d : BitVec 16) : Instr :=
  match o with
  | nop => .nop
  | wrt => .wrt a d
  | rdt => .rdt a
  | wra => .wra a d
  | rda => .rda a
  | wrf => .wrf a d
  | rdf => .rdf a
  | wrp => .wrp a d
  | rdp => .rdp a
  | wrg => .wrg (a.extractLsb' 4 4) (a.extractLsb' 0 4) d
  | rdg => .rdg (a.extractLsb' 4 4) (a.extractLsb' 0 4)
  | rdcsr => .rdcsr a
  | wrcsr => .wrcsr a d
  | clrms => .clrms
  | clrdb => .clrdb
  | compose => .compose
  | glyphs => .glyphs
  | preview => .preview
  | candesc => .candesc
  | canshl => .canshl
  | canshr => .canshr
  | shl => .shl
  | shr => .shr
  | desc => .desc a
  | lock => .lock
  | rot => .rot
  | isfull => .isfull a
  | lclr => .lclr
  | spawn => .spawn a
  | init => .init a

end Opcode

/-- `op = cmd[31:24]` (R90). -/
def opField (w : CmdWord) : BitVec 8 := w.extractLsb' 24 8

/-- `a = cmd[23:16]` (R90). -/
def aField (w : CmdWord) : BitVec 8 := w.extractLsb' 16 8

/-- `d = cmd[15:0]` (R90). -/
def dField (w : CmdWord) : BitVec 16 := w.extractLsb' 0 16

/-- The fields a format does not use are zero (R91). -/
def unusedZero : Format → BitVec 8 → BitVec 16 → Bool
  | .n, a, d => a == 0#8 && d == 0#16
  | .a, _, d => d == 0#16
  | .ad, _, _ => true

/-- Decode a command word (R91, R93, R94 a, b): reserved `op` first, then the unused fields (R101 steps 2
and 3). -/
def decodeCommand (w : CmdWord) : Decoded :=
  match Opcode.ofCode (opField w) with
  | none => .rejected .reservedOpcode
  | some o =>
    if unusedZero o.format (aField w) (dField w) then .ok (o.instr (aField w) (dField w))
    else .rejected .unusedFieldNotZero

/-- Decode what selects an operation: the tick line selects `TICK`, which no command word does (R98). -/
def decode : Selector → Decoded
  | .tickLine => .ok .tick
  | .command w => decodeCommand w

/-- "this check looks only at `op`" (R101 step 1): the word's `op` is that of a read command. -/
def readsOnly (w : CmdWord) : Bool :=
  match Opcode.ofCode (opField w) with
  | some o => o.isRead
  | none => false

/-- A command word from its three fields (R90). -/
def commandWord (op : BitVec 8) (a : BitVec 8) (d : BitVec 16) : CmdWord := op ++ a ++ d

/-- The opcode and operand fields of a host command; an unused field is zero (R91, R92). `TICK` has no
command word (R98). -/
def Instr.fields : Instr → Option (Opcode × BitVec 8 × BitVec 16)
  | .nop => some (.nop, 0#8, 0#16)
  | .wrt i v => some (.wrt, i, v)
  | .rdt i => some (.rdt, i, 0#16)
  | .wra i v => some (.wra, i, v)
  | .rda i => some (.rda, i, 0#16)
  | .wrf i v => some (.wrf, i, v)
  | .rdf i => some (.rdf, i, 0#16)
  | .wrp k v => some (.wrp, k, v)
  | .rdp k => some (.rdp, k, 0#16)
  | .wrg p k v => some (.wrg, p ++ k, v)
  | .rdg p k => some (.rdg, p ++ k, 0#16)
  | .rdcsr n => some (.rdcsr, n, 0#16)
  | .wrcsr n v => some (.wrcsr, n, v)
  | .clrms => some (.clrms, 0#8, 0#16)
  | .clrdb => some (.clrdb, 0#8, 0#16)
  | .compose => some (.compose, 0#8, 0#16)
  | .glyphs => some (.glyphs, 0#8, 0#16)
  | .preview => some (.preview, 0#8, 0#16)
  | .candesc => some (.candesc, 0#8, 0#16)
  | .canshl => some (.canshl, 0#8, 0#16)
  | .canshr => some (.canshr, 0#8, 0#16)
  | .shl => some (.shl, 0#8, 0#16)
  | .shr => some (.shr, 0#8, 0#16)
  | .desc r => some (.desc, r, 0#16)
  | .lock => some (.lock, 0#8, 0#16)
  | .rot => some (.rot, 0#8, 0#16)
  | .isfull i => some (.isfull, i, 0#16)
  | .lclr => some (.lclr, 0#8, 0#16)
  | .spawn r => some (.spawn, r, 0#16)
  | .init r => some (.init, r, 0#16)
  | .tick => none

/-- What selects an operation: the command word of a host command, the tick line for `TICK`. -/
def encode (i : Instr) : Selector :=
  match i.fields with
  | some (o, a, d) => .command (commandWord o.code a d)
  | none => .tickLine

/-- A table row's bits as a selection: 32 bits are a command word (R90, R97). The rest is the model's choice
(DESIGN CHOICE, `notes/assumptions/13.md`): fewer than 32 bits stand for the one-bit encoding `1` of `TICK` (R98);
more than 32 bits are a command word too where the bits above the 32nd are zero, and nothing where they are not. -/
def selectorOf (nbits w : Nat) : Option Selector :=
  if nbits < 32 then (if w = 1 then some .tickLine else none)
  else if w < 4294967296 then some (.command (BitVec.ofNat 32 w)) else none

/-- The instruction the decoder reads from a table row's bits. -/
def decodeTableWord (nbits w : Nat) : Option Instr :=
  match selectorOf nbits w with
  | none => none
  | some sel =>
    match decode sel with
    | .ok i => some i
    | .rejected _ => none

end Sys2Proof
end

