-- ==== Sys2Proof/Config.lean ====
section
/-! DEFINITION. The configuration of the block, fixed for a whole run (R41): the parameters the spec leaves
open (R9), the parameters it decides with the values it takes (R8), and the free values. -/

namespace Sys2Proof

/-- The parameters `spec/00_scope.md` R9 leaves open. Index ranges the rules need are in the types. -/
structure OpenParams where
  /-- `SPAWN_X`, 0..15; its margins are in `Config.wf`. -/
  spawnX : BitVec 4
  /-- `SPAWN_Y`, a row index; its range and margins are in `Config.wf`. -/
  spawnY : BitVec 5
  /-- `SHAPE_ROW0`, 0..30: so that `SHAPE_ROW0 + 1` is a row. -/
  shapeRow0 : Fin 31
  /-- `SHAPE(t)`: the two spawn rows of each piece. -/
  shape : Vector (Row × Row) 7
  /-- `PREVIEW_SHAPE(t)`: the two preview rows of each piece. -/
  previewShape : Vector (Row × Row) 7
  /-- `PREVIEW_ROW0`, 0..6. -/
  previewRow0 : Fin 7
  /-- `GLYPH_ROW0`, 0..3. -/
  glyphRow0 : Fin 4
  /-- `FONT(p, d, k)`: digit place, digit, glyph row. -/
  font : Vector (Vector (Vector Row 5) 10) 3
  /-- `TICK_PERIOD` in nanoseconds; "no rule depends on it" (R9), and none here does. -/
  tickPeriodNs : Nat
  /-- `BLINK_TICKS`: ticks per half blink of the Game Over sequence. -/
  blinkTicks : Nat
deriving DecidableEq, Repr, Inhabited

/-- The whole configuration: the open parameters and those R8 decides, each with the value the spec
takes as its default. `INTERIOR_MASK` and `COMPLETE` are computed from `WALL_MASK`, as R8 gives them. -/
structure Config extends OpenParams where
  /-- `WALL_MASK` (R8, D8). -/
  wallMask : Row := 0xC003#16
  /-- `FOOT_UP` (R8, D10). -/
  footUp : Nat := 2
  /-- `FOOT_DN` (R8, D10). -/
  footDn : Nat := 2
  /-- `I_VROWS` (R8, D11). -/
  iVrows : List Int := [-1, 0, 1, 2]
  /-- `I_HBITS` (R8, D11). -/
  iHbits : List Int := [-1, 0, 1, 2]
  /-- `TICKW`: the width of `MS_TICK` (R8, D13). -/
  tickW : Nat := 32
  /-- `DEBW`: the width of `DEB_TICK` (R8, D13). -/
  debW : Nat := 32
  /-- `SCOREW`: the width of `SCORE` (R8, D13). -/
  scoreW : Nat := 16
  /-- The piece numbering: the variant that each number stands for (R8, D12). -/
  numbering : Vector Variant 7 := #v[.i, .j, .l, .o, .s, .t, .z]
  /-- The serial order of the bytes of a word (R8, D15). -/
  byteOrder : SerialOrder := .mostFirst
  /-- The serial order of the bits of a byte (R8, D15). -/
  bitOrder : SerialOrder := .mostFirst
deriving DecidableEq, Repr

namespace Config

/-- `INTERIOR_MASK = ~WALL_MASK & 0xFFFF` (R8). -/
def interiorMask (c : Config) : Row := ~~~c.wallMask

/-- `COMPLETE = WALL_MASK | INTERIOR_MASK`, the complete-line sentinel (R8). -/
def complete (c : Config) : Row := c.wallMask ||| c.interiorMask

/-- The piece number stands for the I piece (R8, R160). -/
def isI (c : Config) (t : Piece) : Bool := c.numbering[t] == .i

/-- The serial order taken: high byte first, most significant bit first (R8, R62). -/
abbrev MostFirst (c : Config) : Prop := c.byteOrder = .mostFirst ∧ c.bitOrder = .mostFirst

/-- The R8 values the spec takes. -/
structure Decided (c : Config) : Prop where
  wallMask : c.wallMask = 0xC003#16
  footUp : c.footUp = 2
  footDn : c.footDn = 2
  iVrows : c.iVrows = [-1, 0, 1, 2]
  iHbits : c.iHbits = [-1, 0, 1, 2]
  tickW : c.tickW = 32
  debW : c.debW = 32
  scoreW : c.scoreW = 16
  numbering : c.numbering = #v[.i, .j, .l, .o, .s, .t, .z]
  serial : c.MostFirst

/-- The spawn anchor has the margins of R163: those of the 3 by 3 neighbourhood, and with the offsets of the
configuration those of both orientations of the I piece (R9). For `SPAWN_X` R9 writes the numbers out; for
`SPAWN_Y` it says "same" (`notes/assumptions/22.md`). -/
def spawnMargins (c : Config) : Bool :=
  decide (1 ≤ c.spawnX.toNat) && decide (c.spawnX.toNat ≤ 14)
    && decide (1 ≤ c.spawnY.toNat) && decide (c.spawnY.toNat ≤ 30)
    && c.iHbits.all (fun d => decide (0 ≤ c.spawnX.toNat + d) && decide (c.spawnX.toNat + d ≤ 15))
    && c.iVrows.all (fun d => decide (0 ≤ c.spawnY.toNat + d) && decide (c.spawnY.toNat + d ≤ 31))

/-- Every bit that some glyph row of digit place p uses. -/
def placeBits (c : Config) (p : Fin 3) : Row :=
  c.font[p].toList.foldl (fun acc rows => rows.toList.foldl (· ||| ·) acc) 0#16

/-- "for p != q, FONT(p,d,k) & FONT(q,e,j) = 0 for all d, e, k, j" (R9): no two places share a bit. -/
def fontDisjoint (c : Config) : Bool :=
  c.placeBits 0 &&& c.placeBits 1 == 0#16 && c.placeBits 0 &&& c.placeBits 2 == 0#16 &&
    c.placeBits 1 &&& c.placeBits 2 == 0#16

/-- The conditions of R293, the ranges of R9 that the types do not carry, and what the fields of R8 need:
`WALL_MASK` is not the complete line; the spawn row is playable; the spawn anchor has the rotation margins;
the shape rows lie in the footprint of the spawn anchor; the digit places are disjoint; at least one tick per
half blink, and a count that `MS_TICK` can reach; a sub-millisecond tick period; every counter fits the
response value of R95; no variant has two numbers. -/
def wf (c : Config) : Bool :=
  c.wallMask != c.complete && decide (8 ≤ c.spawnY.toNat) && c.spawnMargins
    && decide (c.spawnY.toNat ≤ c.shapeRow0.val + c.footUp)
    && decide (c.shapeRow0.val + 1 ≤ c.spawnY.toNat + c.footDn)
    && c.fontDisjoint && c.blinkTicks != 0 && decide (c.blinkTicks < 2 ^ c.tickW)
    && decide (0 < c.tickPeriodNs) && decide (c.tickPeriodNs < 1000000)
    && decide (c.tickW ≤ 32) && decide (c.debW ≤ 32) && decide (c.scoreW ≤ 32)
    && decide c.numbering.toList.Nodup

/-- FREE VALUE: the open parameters of R9 as this board has them; no source gives them
(`notes/assumptions/2.md`). -/
opaque openParams : OpenParams

/-- The configuration after reset: the open parameters free, the decided ones as R8 takes them. -/
def board : Config := { toOpenParams := openParams }

/-- FREE VALUE: `SR` after the n-th reset, "any 48-bit value" until the first TICK event (R40, U5). -/
opaque chainAtReset : Nat → Chain

/-- FREE VALUE: `OUT` after the n-th reset (R40, U5). -/
opaque latchAtReset : Nat → Chain

/-- FREE VALUE: how many host micro-steps fall between two TICK events, where the state's schedule does
not say; any finite number, zero included (R41, R266; `notes/assumptions/6.md`). -/
opaque hostMoves : Nat → Nat

end Config

end Sys2Proof
end

