-- ==== Sys2Proof/Machine/State.lean ====
section
/-! DEFINITION. The state of the block (`spec/10_state.md`), its reset value (R40), and the reasons a step can
stop. The block has no byte-addressed memory and no program counter (R33, R60). -/

namespace Sys2Proof.Machine

/-- The response `err, val` that ends a host command (R95). -/
structure Response where
  err : Bool
  val : RespWord
deriving DecidableEq, Repr

/-- The five refusal codes of R260. -/
inductive RefusalCode where
  | illegal | range | halted | csr | geometry
deriving DecidableEq, Repr

/-- The micro-steps of host commands that TICK events may fall between and tell apart (R34, R70): the row
writes of `COMPOSE()` (R198), the row writes, clears and waits of the Game Over sequence (R240), and what
ends a command. -/
inductive Micro where
  /-- `frame[i] <- terrain[i] | active[i]`. -/
  | composeBase (i : Fin 32)
  /-- `frame[PREVIEW_ROW0 + k] <- frame[PREVIEW_ROW0 + k] | preview[k]`. -/
  | composePreview (k : Fin 2)
  /-- `frame[GLYPH_ROW0 + k] <- frame[GLYPH_ROW0 + k] | glyph[0][k] | glyph[1][k] | glyph[2][k]`. -/
  | composeGlyph (k : Fin 5)
  /-- `frame[i] <- v`, a row of the blink phase. -/
  | paint (i : Fin 32) (v : Row)
  /-- `MS_TICK <- 0`. -/
  | clearMs
  /-- `wait until MS_TICK >= BLINK_TICKS`: one poll. -/
  | waitMs
  /-- The score decrement, the three clears and `GLYPHS-BODY()` of the Game Over sequence. -/
  | clearSession
  /-- `HALT <- 1`. -/
  | setHalt
  /-- `respond(v)`. -/
  | respond (v : RespWord)
deriving DecidableEq, Repr

/-- Who moves in one step: the TICK agent, the HOST agent (R6), or the external reset input (R290). -/
inductive Turn where
  | tick | host | reset
deriving DecidableEq, Repr

/-- The state. The first group is `spec/10_state.md`'s, the second the HOST continuation of R34, the third
the inputs of the block as plain data (R33, R41). -/
structure State where
  /-- The configuration (R7 to R9), never written. -/
  cfg : Config
  /-- `terrain[0..31]` (R20). -/
  terrain : Rows
  /-- `active[0..31]` (R21). -/
  active : Rows
  /-- `frame[0..31]` (R22). -/
  frame : Rows
  /-- `preview[0..1]` (R23). -/
  preview : Vector Row 2
  /-- `glyph[0..2][0..4]`: hundreds, tens, units (R24). -/
  glyph : Vector (Vector Row 5) 3
  /-- `ANCHOR_X` (R25). -/
  anchorX : BitVec 4
  /-- `ANCHOR_Y` (R25). -/
  anchorY : BitVec 5
  /-- `CUR` (R26). -/
  cur : Piece
  /-- `NEXT` (R26). -/
  nextPiece : Piece
  /-- `SCORE`, below `2^SCOREW` (R27). -/
  score : Nat
  /-- `HALT` (R28). -/
  halt : Bool
  /-- `SCAN` (R31). -/
  scan : BitVec 5
  /-- `MS_TICK`, below `2^TICKW` (R32). -/
  msTick : Nat
  /-- `DEB_TICK`, below `2^DEBW` (R32). -/
  debTick : Nat
  /-- `SR`, the shift-register chain (R35). -/
  sr : Chain
  /-- `OUT`, the latched outputs (R36). -/
  out : Chain
  /-- The HOST continuation: the micro-steps still to perform of the command in progress, empty when the
  HOST agent is idle (R34). -/
  cont : List Micro
  /-- The response at the port (R5, R95): that of the last command that ended, none while a command is in
  progress. -/
  resp : Option Response
  /-- INPUT: the command words the host has still to issue, in order (R33). -/
  port : List CmdWord
  /-- INPUT: who moves in the coming steps (R41). -/
  sched : List Turn
  /-- How many free values the schedule and the resets have drawn. -/
  draws : Nat
deriving DecidableEq, Repr

/-- The reasons the machine stops. -/
inductive Fault where
  /-- Raised by `LCLR` and the lock path of `DESC` when the line-clear loop would never end, which needs a
  configuration with `WALL_MASK = COMPLETE` (R182, U8). Safe: the spec gives no end state. -/
  | lineClearEndless
deriving DecidableEq, Repr

/-- The reasons a step has no meaning. The refusals of R260 are none of these: they are responses. -/
inductive Refusal where
  /-- Raised by no arm of this model: every operation of the table has its meaning. Safe. -/
  | notModelled (mnemonic : String)
deriving DecidableEq, Repr

/-- The state after the n-th reset of a block with configuration `c` and the given inputs (R40, R290):
all zero, the HOST agent idle, the display chain unspecified. -/
def State.afterReset (c : Config) (port : List CmdWord) (sched : List Turn) (n : Nat) : State where
  cfg := c
  terrain := Vector.replicate 32 0#16
  active := Vector.replicate 32 0#16
  frame := Vector.replicate 32 0#16
  preview := Vector.replicate 2 0#16
  glyph := Vector.replicate 3 (Vector.replicate 5 0#16)
  anchorX := 0#4
  anchorY := 0#5
  cur := 0
  nextPiece := 0
  score := 0
  halt := false
  scan := 0#5
  msTick := 0
  debTick := 0
  sr := Config.chainAtReset n
  out := Config.latchAtReset n
  cont := []
  resp := none
  port := port
  sched := sched
  draws := n + 1

/-- The machine right after power-up: no command presented, no schedule given. -/
def State.reset : State := State.afterReset Config.board [] [] 0

end Sys2Proof.Machine
end

