-- ==== Sys2Proof/Machine/Flags.lean ====
section
/-! DEFINITION. The one flag of the block, `HALT` (R28), as the `STATUS` register shows it, and the values
derived from `SCORE`: `LEVEL` (R29) and `DIGITS` (R30). -/

namespace Sys2Proof.Machine

/-- `STATUS`: bit 0 is `HALT`, bits 31:1 read 0 (R37). -/
def State.status (s : State) : RespWord := if s.halt then 1#32 else 0#32

/-- `LEVEL = min(SCORE, 33) * 3` (R29). -/
def State.level (s : State) : Nat := min s.score 33 * 3

/-- `HUN = (SCORE div 100) mod 10` (R30). -/
def State.hundreds (s : State) : Fin 10 := ⟨s.score / 100 % 10, Nat.mod_lt _ (by decide)⟩

/-- `TEN = (SCORE div 10) mod 10` (R30). -/
def State.tens (s : State) : Fin 10 := ⟨s.score / 10 % 10, Nat.mod_lt _ (by decide)⟩

/-- `UNI = SCORE mod 10` (R30). -/
def State.units (s : State) : Fin 10 := ⟨s.score % 10, Nat.mod_lt _ (by decide)⟩

/-- The digit shown at place p: 0 hundreds, 1 tens, 2 units (R195). -/
def State.digit (s : State) (p : Fin 3) : Fin 10 :=
  if p = 0 then s.hundreds else if p = 1 then s.tens else s.units

/-- `DIGITS` as read: `HUN` in bits 11:8, `TEN` in 7:4, `UNI` in 3:0 (R30, R37). -/
def State.digits (s : State) : BitVec 12 :=
  BitVec.ofNat 4 s.hundreds ++ BitVec.ofNat 4 s.tens ++ BitVec.ofNat 4 s.units

end Sys2Proof.Machine
end

