-- ==== Sys2Proof/Machine/Operands.lean ====
section
/-! DEFINITION. Operand forms and the row arithmetic: the ranges of the operand fields (R63, R93), the CSR
numbers (R37), the arithmetic of the counters (R15), the shifts and the overlap test on rows (R11, R140), the
footprint (R14), and single cells (R12). -/

namespace Sys2Proof.Machine

/-- A row index operand, `none` where it is above 31. -/
def rowIndex (a : BitVec 8) : Option (Fin 32) := if h : a.toNat < 32 then some ⟨a.toNat, h⟩ else none

/-- A preview row operand, `none` where it is above 1. -/
def previewIndex (a : BitVec 8) : Option (Fin 2) := if h : a.toNat < 2 then some ⟨a.toNat, h⟩ else none

/-- A digit place and glyph row operand, `none` where p is above 2 or k above 4. -/
def glyphIndex (p k : BitVec 4) : Option (Fin 3 × Fin 5) :=
  if h : p.toNat < 3 ∧ k.toNat < 5 then some (⟨p.toNat, h.1⟩, ⟨k.toNat, h.2⟩) else none

/-- A draw operand, `none` where it is above 6 (R235). -/
def drawOperand (a : BitVec 8) : Option Piece := if h : a.toNat < 7 then some ⟨a.toNat, h⟩ else none

/-- A piece value written to `CUR` or `NEXT`, `none` where it is above 6 (R122). -/
def pieceValue (v : BitVec 16) : Option Piece := if h : v.toNat < 7 then some ⟨v.toNat, h⟩ else none

/-- A counter of `w` bits plus one (R15). -/
def countUp (w n : Nat) : Nat := (n + 1) % 2 ^ w

/-- A counter of `w` bits minus one (R15). -/
def countDown (w n : Nat) : Nat := (n + (2 ^ w - 1)) % 2 ^ w

/-- A value written to a counter of `w` bits, `none` where it does not fit (R92; with `SCOREW = 16` every value
fits, R122). -/
def counterValue (w : Nat) (v : BitVec 16) : Option Nat := if v.toNat < 2 ^ w then some v.toNat else none

/-- The row index a 5-bit register holds (`SCAN`, `ANCHOR_Y`). -/
def rowOf (b : BitVec 5) : Fin 32 := ⟨b.toNat, b.isLt⟩

/-- The CSRs of R37. -/
inductive Csr where
  | status | scan | msTick | debTick | score | level | anchorX | anchorY | cur | next | digits
deriving DecidableEq, Repr

/-- The CSR of a number, `none` for a reserved number (R37). -/
def csrOf (n : BitVec 8) : Option Csr :=
  [Csr.status, .scan, .msTick, .debTick, .score, .level, .anchorX, .anchorY, .cur, .next, .digits][n.toNat]?

/-- `shl16`: one position toward bit 15, bit 15 lost (R11). -/
def shl16 (v : Row) : Row := v <<< 1

/-- `shr16`: one position toward bit 0, bit 0 lost (R11). -/
def shr16 (v : Row) : Row := v >>> 1

/-- `overlap(p, q) = ((p & q) != 0)` (R140). -/
def overlap (p q : Row) : Bool := p &&& q != 0#16

/-- Row r is one of `FOOT(y)`: `max(0, y - FOOT_UP) .. min(31, y + FOOT_DN)` (R14). -/
def inFoot (c : Config) (y : BitVec 5) (r : Fin 32) : Bool :=
  decide (y.toNat - c.footUp ≤ r.val) && decide (r.val ≤ y.toNat + c.footDn)

/-- `FOOT(y)` in ascending order (R14). -/
def foot (c : Config) (y : BitVec 5) : List (Fin 32) := (List.finRange 32).filter (inFoot c y)

/-- A cell (row, bit position), as computed from the anchor; it may lie outside the buffers (R12, R264). -/
abbrev Cell := Int × Int

/-- The cell exists: row 0..31 and bit 0..15. -/
def cellExists (p : Cell) : Bool := decide (0 ≤ p.1) && decide (p.1 ≤ 31) && decide (0 ≤ p.2) && decide (p.2 ≤ 15)

/-- The bit of a layer at a cell that exists; the commands check that first (R163). -/
def cellBit (v : Rows) (p : Cell) : Bool :=
  if h : p.1.toNat < 32 then (v[p.1.toNat]'h).getLsbD p.2.toNat else false

/-- A layer with the bit of one cell set. -/
def setCell (v : Rows) (p : Cell) : Rows :=
  if h : p.1.toNat < 32 then v.set p.1.toNat (v[p.1.toNat]'h ||| 1#16 <<< p.2.toNat) h else v

/-- A layer with the bit of one cell cleared. -/
def clearCell (v : Rows) (p : Cell) : Rows :=
  if h : p.1.toNat < 32 then v.set p.1.toNat (v[p.1.toNat]'h &&& ~~~(1#16 <<< p.2.toNat)) h else v

/-- A row with at most one bit: `b << c`. -/
def bitRow (b : Bool) (c : Nat) : Row := if b then 1#16 <<< c else 0#16

end Sys2Proof.Machine
end

