-- ==== Sys2Proof/Machine/Ops.lean ====
section
/-! DEFINITION. The shared operations: reading and writing elements (R60, R65), ending a command with a
response or a refusal (R95, R96, R260: this block's way of taking an exception and returning from it), the
`HALT` check (R101 step 1), the micro-steps of `COMPOSE()` (R197, R198) and of the Game Over sequence (R240),
the external reset (R290), and the choice of who moves (R41, R266). -/

namespace Sys2Proof.Machine

/-- The outcome of one step of this machine. -/
abbrev Result := Host.Outcome State Fault Refusal

/-! ## Element writes -/

/-- `terrain[i] <- v`. -/
def State.setTerrain (s : State) (i : Fin 32) (v : Row) : State := { s with terrain := s.terrain.set i v }

/-- `active[i] <- v`. -/
def State.setActive (s : State) (i : Fin 32) (v : Row) : State := { s with active := s.active.set i v }

/-- `frame[i] <- v`. -/
def State.setFrame (s : State) (i : Fin 32) (v : Row) : State := { s with frame := s.frame.set i v }

/-- `preview[k] <- v`. -/
def State.setPreview (s : State) (k : Fin 2) (v : Row) : State := { s with preview := s.preview.set k v }

/-- `glyph[p][k] <- v`. -/
def State.setGlyph (s : State) (p : Fin 3) (k : Fin 5) (v : Row) : State :=
  { s with glyph := s.glyph.set p (s.glyph[p].set k v) }

/-! ## Ending a command -/

/-- The number of a refusal code (R260). -/
def RefusalCode.number : RefusalCode → RespWord
  | .illegal => 1#32
  | .range => 2#32
  | .halted => 3#32
  | .csr => 4#32
  | .geometry => 5#32

/-- `respond(v)`: the response is `err = 0`, the value (R96). -/
def State.respond (s : State) (v : RespWord) : State := { s with resp := some ⟨false, v⟩ }

/-- `refuse(code)`: no element of state is written, the response is `err = 1` and the code (R96). -/
def State.refuse (s : State) (c : RefusalCode) : State := { s with resp := some ⟨true, c.number⟩ }

/-- The response of a predicate: 1 true, 0 false (R95). -/
def State.answer (s : State) (b : Bool) : State := s.respond (if b then 1#32 else 0#32)

/-- A command goes on with micro-steps that TICK events may fall between; there is no response yet (R34). -/
def State.issue (s : State) (ms : List Micro) : State := { s with cont := ms ++ s.cont, resp := none }

/-- The `HALT` check of every command that is not a read command: code 3 (R101 step 1, R263). -/
def whenRunning (s : State) (k : Result) : Result := if s.halt then .next (s.refuse .halted) else k

/-- An operand check: code 2 where the operand is out of range (R101 step 4). -/
def inRange {α : Type} (o : Option α) (s : State) (k : α → Result) : Result :=
  match o with
  | some x => k x
  | none => .next (s.refuse .range)

/-- The refusal of a word that is no command: code 3 under `HALT = 1` unless its `op` is that of a read
command, else code 1 (R94 a and b, R101 steps 1 to 3). -/
def illegalWord (w : CmdWord) (s : State) : State :=
  if s.halt && !readsOnly w then s.refuse .halted else s.refuse .illegal

/-! ## The glyph renderer and the compositor's micro-steps -/

/-- `GLYPHS-BODY()`: the three digits of the score drawn from `FONT` (R195). -/
def State.drawGlyphs (s : State) : State :=
  { s with glyph := tabulate fun p => tabulate fun k => s.cfg.font[p][s.digit p][k] }

/-- Row `PREVIEW_ROW0 + k`. -/
def previewRow (c : Config) (k : Fin 2) : Fin 32 := ⟨c.previewRow0.val + k.val, by omega⟩

/-- Row `GLYPH_ROW0 + k`. -/
def glyphRow (c : Config) (k : Fin 5) : Fin 32 := ⟨c.glyphRow0.val + k.val, by omega⟩

/-- The 39 row writes of `COMPOSE()` in their order (R197, R198). -/
def composeMicros : List Micro :=
  (List.finRange 32).map .composeBase ++ (List.finRange 2).map .composePreview ++
    (List.finRange 5).map .composeGlyph

/-- The last micro-steps of a command that ends with `COMPOSE()`. -/
def composeAndRespond : List Micro := composeMicros ++ [.respond 0#32]

/-- One phase of a blink: 32 row writes, the clear of `MS_TICK`, the wait (R240). -/
def blinkPhase (v : Row) : List Micro := (List.finRange 32).map (Micro.paint · v) ++ [.clearMs, .waitMs]

/-- `GAMEOVER()` and the response of the command that entered it: five blinks, solid before blank, then the
score, the clears and the glyphs, the frame, the halt (R240). Irreducible, so that comparing two states never
unrolls the list. -/
@[irreducible] def gameOverMicros : List Micro :=
  (List.replicate 5 (blinkPhase 0xFFFF#16 ++ blinkPhase 0x0000#16)).flatten ++ [.clearSession] ++
    composeMicros ++ [.setHalt, .respond 0#32]

/-- The score decrement, the three clears and `GLYPHS-BODY()` of `GAMEOVER()` (R240). -/
def State.clearSession (s : State) : State :=
  State.drawGlyphs
    { s with
      score := countDown s.cfg.scoreW s.score
      terrain := Vector.replicate 32 0#16
      active := Vector.replicate 32 0#16
      preview := Vector.replicate 2 0#16 }

/-- One micro-step of the HOST agent, already taken off the continuation; a wait whose count is not reached
puts itself back (R34, R198, R240). -/
def runMicro (m : Micro) (s : State) : State :=
  match m with
  | .composeBase i => s.setFrame i (s.terrain[i] ||| s.active[i])
  | .composePreview k => s.setFrame (previewRow s.cfg k) (s.frame[previewRow s.cfg k] ||| s.preview[k])
  | .composeGlyph k =>
    s.setFrame (glyphRow s.cfg k)
      (s.frame[glyphRow s.cfg k] ||| s.glyph[0][k] ||| s.glyph[1][k] ||| s.glyph[2][k])
  | .paint i v => s.setFrame i v
  | .clearMs => { s with msTick := 0 }
  | .waitMs => if s.cfg.blinkTicks ≤ s.msTick then s else { s with cont := .waitMs :: s.cont }
  | .clearSession => s.clearSession
  | .setHalt => { s with halt := true }
  | .respond v => s.respond v

/-! ## Reset and the choice of who moves -/

/-- The external reset (R290): every element of state to its reset value; the configuration and the inputs
are not state of the block. -/
def State.externalReset (s : State) : State := State.afterReset s.cfg s.port s.sched s.draws

/-- Who moves next, and the state with that turn taken off the schedule. Where the schedule says nothing, a
free number of host micro-steps and then a TICK event follow (R41, R266). -/
def takeTurn (s : State) : Turn × State :=
  match s.sched with
  | t :: rest => (t, { s with sched := rest })
  | [] =>
    match Config.hostMoves s.draws with
    | 0 => (.tick, { s with draws := s.draws + 1 })
    | n + 1 => (.host, { s with sched := List.replicate n .host ++ [.tick], draws := s.draws + 1 })

end Sys2Proof.Machine
end

