-- ==== Sys2Proof/Machine/Access.lean ====
section
/-! DEFINITION. The element access commands (`spec/40_access.md`, R110 to R124). -/

namespace Sys2Proof.Machine

/-- `NOP` (R110). -/
def execNop (s : State) : Result := .next (s.respond 0#32)

/-- `WRT i, v` (R111). -/
def execWrt (i : BitVec 8) (v : Row) (s : State) : Result :=
  whenRunning s (inRange (rowIndex i) s fun j => .next ((s.setTerrain j v).respond 0#32))

/-- `RDT i` (R112). -/
def execRdt (i : BitVec 8) (s : State) : Result :=
  inRange (rowIndex i) s fun j => .next (s.respond (s.terrain[j].setWidth 32))

/-- `WRA i, v` (R113). -/
def execWra (i : BitVec 8) (v : Row) (s : State) : Result :=
  whenRunning s (inRange (rowIndex i) s fun j => .next ((s.setActive j v).respond 0#32))

/-- `RDA i` (R114). -/
def execRda (i : BitVec 8) (s : State) : Result :=
  inRange (rowIndex i) s fun j => .next (s.respond (s.active[j].setWidth 32))

/-- `WRF i, v`: one micro-step (R115). -/
def execWrf (i : BitVec 8) (v : Row) (s : State) : Result :=
  whenRunning s (inRange (rowIndex i) s fun j => .next ((s.setFrame j v).respond 0#32))

/-- `RDF i`: the stored row, not its complement (R116). -/
def execRdf (i : BitVec 8) (s : State) : Result :=
  inRange (rowIndex i) s fun j => .next (s.respond (s.frame[j].setWidth 32))

/-- `WRP k, v` (R117). -/
def execWrp (k : BitVec 8) (v : Row) (s : State) : Result :=
  whenRunning s (inRange (previewIndex k) s fun j => .next ((s.setPreview j v).respond 0#32))

/-- `RDP k` (R118). -/
def execRdp (k : BitVec 8) (s : State) : Result :=
  inRange (previewIndex k) s fun j => .next (s.respond (s.preview[j].setWidth 32))

/-- `WRG p, k, v` (R119). -/
def execWrg (p k : BitVec 4) (v : Row) (s : State) : Result :=
  whenRunning s (inRange (glyphIndex p k) s fun j => .next ((s.setGlyph j.1 j.2 v).respond 0#32))

/-- `RDG p, k` (R120). -/
def execRdg (p k : BitVec 4) (s : State) : Result :=
  inRange (glyphIndex p k) s fun j => .next (s.respond (s.glyph[j.1][j.2].setWidth 32))

/-- The value of a CSR as `RDCSR` reads it, zero-extended (R37, R121). -/
def readCsr (c : Csr) (s : State) : RespWord :=
  match c with
  | .status => s.status
  | .scan => s.scan.setWidth 32
  | .msTick => BitVec.ofNat 32 s.msTick
  | .debTick => BitVec.ofNat 32 s.debTick
  | .score => BitVec.ofNat 32 s.score
  | .level => BitVec.ofNat 32 s.level
  | .anchorX => s.anchorX.setWidth 32
  | .anchorY => s.anchorY.setWidth 32
  | .cur => BitVec.ofNat 32 s.cur
  | .next => BitVec.ofNat 32 s.nextPiece
  | .digits => s.digits.setWidth 32

/-- `RDCSR n` (R121). -/
def execRdcsr (n : BitVec 8) (s : State) : Result :=
  match csrOf n with
  | none => .next (s.refuse .csr)
  | some c => .next (s.respond (readCsr c s))

/-- The write of a CSR: code 4 for a read-only one, code 2 for a value out of its range (R37, R122). -/
def writeCsr (c : Csr) (v : BitVec 16) (s : State) : State :=
  match c with
  | .status | .scan | .msTick | .debTick | .level | .digits => s.refuse .csr
  | .score =>
    match counterValue s.cfg.scoreW v with
    | none => s.refuse .range
    | some n => ({ s with score := n }).respond 0#32
  | .anchorX =>
    if 15 < v.toNat then s.refuse .range else ({ s with anchorX := v.setWidth 4 }).respond 0#32
  | .anchorY =>
    if 31 < v.toNat then s.refuse .range else ({ s with anchorY := v.setWidth 5 }).respond 0#32
  | .cur =>
    match pieceValue v with
    | none => s.refuse .range
    | some t => ({ s with cur := t }).respond 0#32
  | .next =>
    match pieceValue v with
    | none => s.refuse .range
    | some t => ({ s with nextPiece := t }).respond 0#32

/-- `WRCSR n, v` (R122). -/
def execWrcsr (n : BitVec 8) (v : BitVec 16) (s : State) : Result :=
  whenRunning s <|
    match csrOf n with
    | none => .next (s.refuse .csr)
    | some c => .next (writeCsr c v s)

/-- `CLRMS` (R123). -/
def execClrms (s : State) : Result := whenRunning s (.next (({ s with msTick := 0 }).respond 0#32))

/-- `CLRDB` (R124). -/
def execClrdb (s : State) : Result := whenRunning s (.next (({ s with debTick := 0 }).respond 0#32))

end Sys2Proof.Machine
end

