-- ==== Sys2Proof/Machine/Compositor.lean ====
section
/-! DEFINITION. The score glyph renderer, the preview and the frame compositor (`spec/44_compositor.md`). -/

namespace Sys2Proof.Machine

/-- `PREVIEW-BODY()` (R196). -/
def State.drawPreview (s : State) : State :=
  { s with preview := #v[s.cfg.previewShape[s.nextPiece].1, s.cfg.previewShape[s.nextPiece].2] }

/-- `GLYPHS` (R195). -/
def execGlyphs (s : State) : Result := whenRunning s (.next (s.drawGlyphs.respond 0#32))

/-- `PREVIEW` (R196). -/
def execPreview (s : State) : Result := whenRunning s (.next (s.drawPreview.respond 0#32))

/-- `COMPOSE`: its 39 row writes follow as micro-steps (R197, R198). -/
def execCompose (s : State) : Result := whenRunning s (.next (s.issue composeAndRespond))

/-- `P(i)` of R197: the preview overlay of row i. -/
def previewOverlay (s : State) (i : Fin 32) : Row :=
  if i = previewRow s.cfg 0 then s.preview[0] else if i = previewRow s.cfg 1 then s.preview[1] else 0#16

/-- `G(i)` of R197: the glyph overlay of row i. -/
def glyphOverlay (s : State) (i : Fin 32) : Row :=
  if h : s.cfg.glyphRow0.val ≤ i.val ∧ i.val ≤ s.cfg.glyphRow0.val + 4 then
    s.glyph[0][i.val - s.cfg.glyphRow0.val] ||| s.glyph[1][i.val - s.cfg.glyphRow0.val] |||
      s.glyph[2][i.val - s.cfg.glyphRow0.val]
  else 0#16

/-- The end state of `COMPOSE()`: `frame[i] = terrain[i] | active[i] | P(i) | G(i)` (R197). -/
def composedRow (s : State) (i : Fin 32) : Row :=
  s.terrain[i] ||| s.active[i] ||| previewOverlay s i ||| glyphOverlay s i

end Sys2Proof.Machine
end

