-- ==== Sys2Proof/Machine/LineClear.lean ====
section
/-! DEFINITION. The line-clear detector and the compaction (`spec/43_lineclear.md`). -/

namespace Sys2Proof.Machine

/-- The row-match predicate: all 16 bits equal to the sentinel (R180). -/
def isComplete (c : Config) (v : Row) : Bool := v == c.complete

/-- `ISFULL i` (R180). -/
def execIsfull (i : BitVec 8) (s : State) : Result :=
  inRange (rowIndex i) s fun j => .next (s.answer (isComplete s.cfg s.terrain[j]))

/-- The terrain after the clear of row r: rows 9..r take the row above them, row 8 becomes `WALL_MASK`
(R181). -/
def compact (c : Config) (r : Nat) (v : Rows) : Rows :=
  tabulate fun i =>
    if i.val = 8 then c.wallMask
    else if 8 < i.val ∧ i.val ≤ r then v[i.val - 1]
    else v[i]

/-- One cleared line: the compaction, the score, the glyphs (R181). -/
def clearLine (r : Fin 32) (s : State) : State :=
  State.drawGlyphs { s with terrain := compact s.cfg r.val s.terrain, score := countUp s.cfg.scoreW s.score }

/-- The loop of R181, from row index r on, with a bound on its iterations; `none` where the bound is
reached. A clear tests the same row index again. -/
def lineClearFrom (bound : Nat) (r : Fin 32) (s : State) : Option State :=
  match bound with
  | 0 => if r.val < 8 then some s else none
  | n + 1 =>
    if r.val < 8 then some s
    else if isComplete s.cfg s.terrain[r] then lineClearFrom n r (clearLine r s)
    else lineClearFrom n (r - 1) s

/-- `LCLR-BODY()`: from row 31, at most 48 iterations (R181, R182). -/
def lineClear (s : State) : Option State := lineClearFrom 48 31 s

/-- `LCLR` (R181). -/
def execLclr (s : State) : Result :=
  whenRunning s <|
    match lineClear s with
    | none => .fault .lineClearEndless
    | some t => .next (t.respond 0#32)

end Sys2Proof.Machine
end

