-- ==== Sys2Proof/Machine/Session.lean ====
section
/-! DEFINITION. Game start and piece spawn (`spec/46_session.md`); the Game Over sequence a spawn can enter
is `gameOverMicros` of `Ops.lean`. -/

namespace Sys2Proof.Machine

/-- The first row that receives the spawn shape. -/
def shapeRow0 (c : Config) : Fin 32 := ⟨c.shapeRow0.val, by omega⟩

/-- The second row that receives the spawn shape, `SHAPE_ROW0 + 1`. -/
def shapeRow1 (c : Config) : Fin 32 := ⟨c.shapeRow0.val + 1, by omega⟩

/-- `spawn_blocked(t)` (R237). -/
def spawnBlocked (t : Piece) (s : State) : Bool :=
  overlap s.cfg.shape[t].1 s.terrain[shapeRow0 s.cfg] || overlap s.cfg.shape[t].2 s.terrain[shapeRow1 s.cfg]

/-- The part of `SPAWN-BODY(r)` before the overlap test: the old footprint cleared, the anchor at the spawn
coordinate, the next piece promoted, the draw taken (R238). -/
def promote (r : Piece) (s : State) : State :=
  { s with
    active := tabulate fun i => if inFoot s.cfg s.anchorY i then 0#16 else s.active[i]
    anchorX := s.cfg.spawnX
    anchorY := s.cfg.spawnY
    cur := s.nextPiece
    nextPiece := r }

/-- The part after the test: the two shape rows assigned, the preview drawn (R238). -/
def placeShape (s : State) : State :=
  State.drawPreview
    ((s.setActive (shapeRow0 s.cfg) s.cfg.shape[s.cur].1).setActive (shapeRow1 s.cfg) s.cfg.shape[s.cur].2)

/-- `SPAWN-BODY(r)` and the response: Game Over where the spawn is blocked, else the piece (R238). -/
def spawnBody (r : Piece) (s : State) : State :=
  if spawnBlocked (promote r s).cur (promote r s) then (promote r s).issue gameOverMicros
  else (placeShape (promote r s)).issue composeAndRespond

/-- `SPAWN r` (R238). -/
def execSpawn (r : BitVec 8) (s : State) : Result :=
  whenRunning s (inRange (drawOperand r) s fun t => .next (spawnBody t s))

/-- The board at game start, before the frame is composed (R236). -/
def startBoard (r0 : Piece) (s : State) : State :=
  State.drawGlyphs
    { s with
      terrain := tabulate fun i => if i.val < 8 then 0#16 else s.cfg.wallMask
      active := Vector.replicate 32 0#16
      preview := Vector.replicate 2 0#16
      score := 0
      anchorX := s.cfg.spawnX
      anchorY := s.cfg.spawnY
      cur := r0
      nextPiece := r0 }

/-- `INIT r0` (R236). -/
def execInit (r : BitVec 8) (s : State) : Result :=
  whenRunning s (inRange (drawOperand r) s fun t => .next ((startBoard t s).issue composeAndRespond))

end Sys2Proof.Machine
end

