-- ==== Sys2Proof/Machine/Movement.lean ====
section
/-! DEFINITION. The collision tester and the movement commands (`spec/41_movement.md`). -/

namespace Sys2Proof.Machine

/-- `canDescend()`: the lowest row is empty and no active row overlaps the terrain row below it; what lies
below row 31 counts as solid (R141). -/
def canDescend (s : State) : Bool :=
  s.active[31] == 0#16 &&
    (List.finRange 31).all fun i => !overlap (s.active[i.val]'(by omega)) (s.terrain[i.val + 1]'(by omega))

/-- `canShift` left: no footprint row of the piece, shifted left, overlaps terrain (R142). -/
def canShiftLeft (s : State) : Bool :=
  (foot s.cfg s.anchorY).all fun r => !overlap (shl16 s.active[r]) s.terrain[r]

/-- `canShift` right, the mirror (R143). -/
def canShiftRight (s : State) : Bool :=
  (foot s.cfg s.anchorY).all fun r => !overlap (shr16 s.active[r]) s.terrain[r]

/-- `CANDESC` (R141). -/
def execCandesc (s : State) : Result := .next (s.answer (canDescend s))

/-- `CANSHL` (R142). -/
def execCanshl (s : State) : Result := .next (s.answer (canShiftLeft s))

/-- `CANSHR` (R143). -/
def execCanshr (s : State) : Result := .next (s.answer (canShiftRight s))

/-- The committed left shift: the footprint rows and the anchor (R145). -/
def shiftLeft (s : State) : State :=
  { s with
    active := tabulate fun i => if inFoot s.cfg s.anchorY i then shl16 s.active[i] else s.active[i]
    anchorX := s.anchorX + 1#4 }

/-- The committed right shift (R146). -/
def shiftRight (s : State) : State :=
  { s with
    active := tabulate fun i => if inFoot s.cfg s.anchorY i then shr16 s.active[i] else s.active[i]
    anchorX := s.anchorX - 1#4 }

/-- `SHL` (R145). -/
def execShl (s : State) : Result :=
  whenRunning s <|
    if canShiftLeft s then
      if s.anchorX = 15#4 then .next (s.refuse .geometry)
      else .next ((shiftLeft s).issue composeAndRespond)
    else .next (s.respond 0#32)

/-- `SHR` (R146). -/
def execShr (s : State) : Result :=
  whenRunning s <|
    if canShiftRight s then
      if s.anchorX = 0#4 then .next (s.refuse .geometry)
      else .next ((shiftRight s).issue composeAndRespond)
    else .next (s.respond 0#32)

/-- `LOCK-BODY()`: the union of the layers (R147). -/
def lockPiece (s : State) : State := { s with terrain := tabulate fun i => s.terrain[i] ||| s.active[i] }

/-- `LOCK` (R147). -/
def execLock (s : State) : Result := whenRunning s (.next ((lockPiece s).respond 0#32))

/-- The shift path of `DESC`: all 32 rows move down by one, and the anchor with them (R148). -/
def shiftDown (s : State) : State :=
  { s with
    active := tabulate fun i => if i.val = 0 then 0#16 else s.active[i.val - 1]
    anchorY := s.anchorY + 1#5 }

/-- `DESC r` (R148). -/
def execDesc (r : BitVec 8) (s : State) : Result :=
  whenRunning s <|
    inRange (drawOperand r) s fun t =>
      if canDescend s then
        if s.anchorY = 31#5 then .next (s.refuse .geometry)
        else .next ((shiftDown s).issue composeAndRespond)
      else
        match lineClear (lockPiece s) with
        | none => .fault .lineClearEndless
        | some u => .next (spawnBody t u)

end Sys2Proof.Machine
end

