-- ==== Sys2Proof/Machine/Rotation.lean ====
section
/-! DEFINITION. The piece rotation (`spec/42_rotation.md`): the 3 by 3 lookup for six pieces, the two-state
toggle for the I piece. -/

namespace Sys2Proof.Machine

/-- The cell at row offset di and bit offset dj from bit x of row y (R12, R161). -/
def cellAt (x : BitVec 4) (y : BitVec 5) (di dj : Int) : Cell := (y.toNat + di, x.toNat + dj)

/-- The cell at row offset di and bit offset dj from the anchor. -/
def anchorCell (s : State) (di dj : Int) : Cell := cellAt s.anchorX s.anchorY di dj

/-- `A(di, dj)` (R161). -/
def occupied (s : State) (di dj : Int) : Bool := cellBit s.active (anchorCell s di dj)

/-- `T(di, dj)` (R161). -/
def blocked (s : State) (di dj : Int) : Bool := cellBit s.terrain (anchorCell s di dj)

/-- The corner and centre occupancies `C[0..4]` (R162). -/
def cornersAndCentre (s : State) : Vector Bool 5 :=
  #v[occupied s (-1) (-1), occupied s (-1) 1, occupied s 0 0, occupied s 1 (-1), occupied s 1 1]

/-- The edge occupancies `E[0..3]` (R162). -/
def edges (s : State) : Vector Bool 4 := #v[occupied s (-1) 0, occupied s 0 (-1), occupied s 0 1, occupied s 1 0]

/-- The rotation table `R[0..8]` (R164). -/
def rotationTable (C : Vector Bool 5) (E : Vector Bool 4) : Vector Bool 9 :=
  #v[C[1], E[2], C[4],
     E[0], C[2], E[3],
     C[0], E[1], C[3]]

/-- `R` of the current state. -/
def rotated (s : State) : Vector Bool 9 := rotationTable (cornersAndCentre s) (edges s)

/-- The row offset of grid index n: `(n div 3) - 1` (R165). -/
def gridRow (n : Fin 9) : Int := (n.val / 3 : Nat) - 1

/-- The bit offset of grid index n: `(n mod 3) - 1` (R165). -/
def gridBit (n : Fin 9) : Int := (n.val % 3 : Nat) - 1

/-- The margins of the 3 by 3 neighbourhood: `1 <= x <= 14` and `1 <= y <= 30` (R163). -/
def margins3 (s : State) : Bool :=
  decide (1 ≤ s.anchorX.toNat) && decide (s.anchorX.toNat ≤ 14) && decide (1 ≤ s.anchorY.toNat) &&
    decide (s.anchorY.toNat ≤ 30)

/-- Some set bit of `R` is over a terrain cell (R165). -/
def collides3 (s : State) : Bool :=
  (List.finRange 9).any fun n => (rotated s)[n] && blocked s (gridRow n) (gridBit n)

/-- The row of `R` at grid row g as bits `x-1, x, x+1` (R165). -/
def gridRowBits (s : State) (g : Fin 3) : Row :=
  bitRow ((rotated s)[3 * g.val]) (s.anchorX.toNat - 1) ||| bitRow ((rotated s)[3 * g.val + 1]) s.anchorX.toNat |||
    bitRow ((rotated s)[3 * g.val + 2]) (s.anchorX.toNat + 1)

/-- The commit: rows `y-1, y, y+1` of `active` overwritten whole (R165). -/
def rotate3 (s : State) : State :=
  { s with
    active := tabulate fun i =>
      if i.val + 1 = s.anchorY.toNat then gridRowBits s 0
      else if i.val = s.anchorY.toNat then gridRowBits s 1
      else if i.val = s.anchorY.toNat + 1 then gridRowBits s 2
      else s.active[i] }

/-- The four cells of the vertical I piece with its anchor at bit x of row y (R166). -/
def verticalAt (c : Config) (x : BitVec 4) (y : BitVec 5) : List Cell := c.iVrows.map fun d => cellAt x y d 0

/-- The four cells of the horizontal I piece with its anchor at bit x of row y (R166). -/
def horizontalAt (c : Config) (x : BitVec 4) (y : BitVec 5) : List Cell := c.iHbits.map fun d => cellAt x y 0 d

/-- The four cells of the vertical I piece at the anchor. -/
def verticalCells (s : State) : List Cell := verticalAt s.cfg s.anchorX s.anchorY

/-- The four cells of the horizontal I piece at the anchor. -/
def horizontalCells (s : State) : List Cell := horizontalAt s.cfg s.anchorX s.anchorY

/-- Every cell of both orientations exists (R163). -/
def marginsI (s : State) : Bool := (verticalCells s ++ horizontalCells s).all cellExists

/-- Every cell of the list is set in the layer. -/
def allSet (v : Rows) (cs : List Cell) : Bool := cs.all (cellBit v)

/-- Some cell of the list is set in the layer. -/
def someSet (v : Rows) (cs : List Cell) : Bool := cs.any (cellBit v)

/-- The present and the other orientation of the I piece, vertical tested first; `none` where `active` shows
neither (R167). -/
def orientation (s : State) : Option (List Cell × List Cell) :=
  if allSet s.active (verticalCells s) then some (verticalCells s, horizontalCells s)
  else if allSet s.active (horizontalCells s) then some (horizontalCells s, verticalCells s)
  else none

/-- The commit of the toggle: the old cells cleared, then the new cells set (R167). -/
def toggleCells (old new : List Cell) (s : State) : State :=
  { s with active := new.foldl setCell (old.foldl clearCell s.active) }

/-- `ROT`: the toggle for the I piece, the 3 by 3 table for the others (R160, R165, R167). -/
def execRot (s : State) : Result :=
  whenRunning s <|
    if s.cfg.isI s.cur then
      if marginsI s then
        match orientation s with
        | none => .next (s.refuse .geometry)
        | some (old, new) =>
          if someSet s.terrain new then .next (s.respond 0#32)
          else .next ((toggleCells old new s).issue composeAndRespond)
      else .next (s.refuse .geometry)
    else if margins3 s then
      if collides3 s then .next (s.respond 0#32)
      else .next ((rotate3 s).issue composeAndRespond)
    else .next (s.refuse .geometry)

end Sys2Proof.Machine
end

