-- ==== Sys2Proof/Machine/ScanOut.lean ====
section
/-! DEFINITION. The scan-out driver (`spec/45_scanout.md`): the TICK event, the serial channel, the chain,
the latch, and what the display shows. -/

namespace Sys2Proof.Machine

/-- One bit sent: every stage takes the stage before it, stage 0 takes the bit (R215). -/
def shiftIn (sr : Chain) (b : Bool) : Chain := (sr <<< 1) ||| (BitVec.ofBool b).setWidth 48

/-- The parts of a word, given from the most significant to the least, in sending order (R8). -/
def inOrder {α : Type} (o : SerialOrder) (parts : List α) : List α :=
  match o with
  | .mostFirst => parts
  | .leastFirst => parts.reverse

/-- The bits of a byte in sending order; as taken, most significant first (R62, R214). -/
def byteBits (c : Config) (b : BitVec 8) : List Bool :=
  inOrder c.bitOrder ([7, 6, 5, 4, 3, 2, 1, 0].map fun k => b.getLsbD k)

/-- The byte writes of `SEND16(w)` (R214). -/
def bytes16 (c : Config) (w : BitVec 16) : List (BitVec 8) :=
  inOrder c.byteOrder [w.extractLsb' 8 8, w.extractLsb' 0 8]

/-- The byte writes of `SEND32(w)` (R214). -/
def bytes32 (c : Config) (w : BitVec 32) : List (BitVec 8) :=
  inOrder c.byteOrder [w.extractLsb' 24 8, w.extractLsb' 16 8, w.extractLsb' 8 8, w.extractLsb' 0 8]

/-- The chain after one byte write. -/
def sendByte (c : Config) (sr : Chain) (b : BitVec 8) : Chain := (byteBits c b).foldl shiftIn sr

/-- The chain after a sequence of byte writes. -/
def sendBytes (c : Config) (sr : Chain) (bs : List (BitVec 8)) : Chain := bs.foldl (sendByte c) sr

/-- `w16 = ~frame[SCAN]` (R212). -/
def dataWord (s : State) : BitVec 16 := ~~~s.frame[rowOf s.scan]

/-- `w32 = 0x80000000 >> SCAN` (R213). -/
def selectWord (scan : BitVec 5) : BitVec 32 := 0x80000000#32 >>> scan.toNat

/-- The bytes one TICK event sends, in order (R62, R210). -/
def serialBytes (s : State) : List (BitVec 8) := bytes16 s.cfg (dataWord s) ++ bytes32 s.cfg (selectWord s.scan)

/-- The TICK event: the counters, the serial words, the latch, the advance (R210). -/
def tickEvent (s : State) : State :=
  let sr' := sendBytes s.cfg s.sr (serialBytes s)
  { s with
    msTick := countUp s.cfg.tickW s.msTick
    debTick := countUp s.cfg.debW s.debTick
    sr := sr'
    out := sr'
    scan := s.scan + 1#5 }

/-- `TICK`: never refused, `HALT` not read (R210). -/
def execTick (s : State) : Result := .next (tickEvent s)

/-- Physical display row r is selected (R218). -/
def rowSelected (out : Chain) (r : Fin 32) : Bool := out.getLsbD (31 - r.val)

/-- LED (r, c) is lit: its row is selected and column line c is 0 (R218). -/
def ledLit (out : Chain) (r : Fin 32) (c : Fin 16) : Bool := rowSelected out r && !out.getLsbD (32 + c.val)

end Sys2Proof.Machine
end

