-- ==== Sys2Proof/Machine/Dispatch.lean ====
section
/-! DEFINITION. The dispatch: one arm per operation. -/

namespace Sys2Proof.Machine

/-- What an operation does: a host command at the moment it is issued, or the TICK event. -/
def exec (i : Instr) (s : State) : Host.Outcome State Fault Refusal :=
  match i with
  | .nop => Sys2Proof.Machine.execNop s
  | .wrt a v => Sys2Proof.Machine.execWrt a v s
  | .rdt a => Sys2Proof.Machine.execRdt a s
  | .wra a v => Sys2Proof.Machine.execWra a v s
  | .rda a => Sys2Proof.Machine.execRda a s
  | .wrf a v => Sys2Proof.Machine.execWrf a v s
  | .rdf a => Sys2Proof.Machine.execRdf a s
  | .wrp k v => Sys2Proof.Machine.execWrp k v s
  | .rdp k => Sys2Proof.Machine.execRdp k s
  | .wrg p k v => Sys2Proof.Machine.execWrg p k v s
  | .rdg p k => Sys2Proof.Machine.execRdg p k s
  | .rdcsr n => Sys2Proof.Machine.execRdcsr n s
  | .wrcsr n v => Sys2Proof.Machine.execWrcsr n v s
  | .clrms => Sys2Proof.Machine.execClrms s
  | .clrdb => Sys2Proof.Machine.execClrdb s
  | .compose => Sys2Proof.Machine.execCompose s
  | .glyphs => Sys2Proof.Machine.execGlyphs s
  | .preview => Sys2Proof.Machine.execPreview s
  | .candesc => Sys2Proof.Machine.execCandesc s
  | .canshl => Sys2Proof.Machine.execCanshl s
  | .canshr => Sys2Proof.Machine.execCanshr s
  | .shl => Sys2Proof.Machine.execShl s
  | .shr => Sys2Proof.Machine.execShr s
  | .desc r => Sys2Proof.Machine.execDesc r s
  | .lock => Sys2Proof.Machine.execLock s
  | .rot => Sys2Proof.Machine.execRot s
  | .isfull a => Sys2Proof.Machine.execIsfull a s
  | .lclr => Sys2Proof.Machine.execLclr s
  | .spawn r => Sys2Proof.Machine.execSpawn r s
  | .init r => Sys2Proof.Machine.execInit r s
  | .tick => Sys2Proof.Machine.execTick s

end Sys2Proof.Machine
end

