-- ==== Sys2Proof/Machine/Port.lean ====
section
/-! DEFINITION. The moves of the agents: the HOST agent performs the micro-steps of the command in progress
and, when idle, takes the next command word from the port (R33, R34, R74); the TICK agent performs its
event whole (R69); the external reset. How a selection is presented to the machine. -/

namespace Sys2Proof.Machine

/-- A command word taken from the port: decoded at the moment it is issued (R74), then performed or refused
(R94, R101). -/
def issueWord (w : CmdWord) (s : State) : Result :=
  match decodeCommand w with
  | .ok i => exec i s
  | .rejected _ => .next (illegalWord w s)

/-- One move of the HOST agent. With no command in progress and none presented nothing happens (R34). -/
def hostMove (s : State) : Result :=
  match s.cont with
  | m :: rest => .next (runMicro m { s with cont := rest })
  | [] =>
    match s.port with
    | w :: rest => issueWord w { s with port := rest }
    | [] => .next s

/-- The move of a turn (R6, R68, R290). -/
def move (t : Turn) (s : State) : Result :=
  match t with
  | .tick => exec .tick s
  | .host => hostMove s
  | .reset => .next s.externalReset

/-- The machine with a selection presented to it, to be taken in the very next step: the tick line asserted
next, or the HOST idle with the word at the port and the next turn the HOST's. -/
def State.present (s : State) (sel : Selector) : State :=
  match sel with
  | .tickLine => { s with sched := .tick :: s.sched }
  | .command w => { s with cont := [], port := w :: s.port, sched := .host :: s.sched }

end Sys2Proof.Machine
end

