-- ==== Sys2Proof/Machine/Step.lean ====
section
/-! DEFINITION. One step: whoever's turn it is moves (R6, R68). And where the next operation is presented. -/

namespace Sys2Proof.Machine

/-- One step of the machine. -/
def step (s : State) : Host.Outcome State Fault Refusal :=
  move (takeTurn s).1 (takeTurn s).2

/-- The machine with a table row's bits presented for the very next step. -/
def State.withFetchWord (s : State) (nbits w : Nat) : State :=
  match selectorOf nbits w with
  | none => s
  | some sel => s.present sel

end Sys2Proof.Machine
end

