-- ==== Sys2Proof/Safety.lean ====
section
/-! DEFINITION. The terms the claims use: runs over a given list of turns, which state belongs to which agent
(R270), the invariants the spec states (R38, R39), and those of the model's own state. -/

namespace Sys2Proof.Machine

/-- The moves of a list of turns, one after another, stopping at a fault or refusal. -/
def runTurns : List Turn → State → Result
  | [], s => .next s
  | t :: ts, s =>
    match move t s with
    | .next u => runTurns ts u
    | .fault f => .fault f
    | .refused r => .refused r

/-- Board and frame state and HOST-owned scalars are the same (R270, first three lines of its table). -/
structure SameHostState (s t : State) : Prop where
  terrain : t.terrain = s.terrain
  active : t.active = s.active
  frame : t.frame = s.frame
  preview : t.preview = s.preview
  glyph : t.glyph = s.glyph
  anchorX : t.anchorX = s.anchorX
  anchorY : t.anchorY = s.anchorY
  cur : t.cur = s.cur
  nextPiece : t.nextPiece = s.nextPiece
  score : t.score = s.score
  halt : t.halt = s.halt

/-- The state only the TICK agent writes is the same: `SCAN`, `SR`, `OUT` (R270). -/
structure SameScanState (s t : State) : Prop where
  scan : t.scan = s.scan
  sr : t.sr = s.sr
  out : t.out = s.out

/-- Layer exclusion (R38). -/
abbrev LayerExclusion (s : State) : Prop := ∀ i : Fin 32, s.active[i] &&& s.terrain[i] = 0#16

/-- Every set bit of `active` lies in a row of `FOOT(ANCHOR_Y)` (R39, first part). -/
abbrev ActiveInFootprint (s : State) : Prop :=
  ∀ i : Fin 32, inFoot s.cfg s.anchorY i = false → s.active[i] = 0#16

/-- Bit b of row i as a cell (R12). -/
def cellOf (i : Fin 32) (b : Fin 16) : Cell := (i.val, b.val)

/-- Every set bit of a layer lies in one of the cells. -/
def LiesIn (v : Rows) (cells : List Cell) : Prop :=
  ∀ (i : Fin 32) (b : Fin 16), v[i].getLsbD b.val = true → cellOf i b ∈ cells

/-- The set bits of a layer are the cells. -/
def Fills (v : Rows) (cells : List Cell) : Prop :=
  ∀ (i : Fin 32) (b : Fin 16), v[i].getLsbD b.val = true ↔ cellOf i b ∈ cells

/-- Every set bit of a layer lies where R39 allows piece `t` with its anchor at bit `x` of row `y`: a piece
other than I in the 3 by 3 cells around the anchor, the I piece in the four cells of one orientation (R166). -/
def LiesAt (c : Config) (t : Piece) (x : BitVec 4) (y : BitVec 5) (v : Rows) : Prop :=
  if c.isI t = true then LiesIn v (verticalAt c x y) ∨ LiesIn v (horizontalAt c x y)
  else
    ∀ (i : Fin 32) (b : Fin 16), v[i].getLsbD b.val = true →
      i.val ≤ y.toNat + 1 ∧ y.toNat ≤ i.val + 1 ∧ b.val ≤ x.toNat + 1 ∧ x.toNat ≤ b.val + 1

/-- The current piece lies at its anchor (R39). -/
def PieceAtAnchor (s : State) : Prop := LiesAt s.cfg s.cur s.anchorX s.anchorY s.active

/-- The layer that holds the spawn rows of piece `t` alone (R238). -/
def spawnLayer (c : Config) (t : Piece) : Rows :=
  tabulate fun i =>
    if i = shapeRow0 c then c.shape[t].1 else if i = shapeRow1 c then c.shape[t].2 else 0#16

/-- The constraint R9 puts on `SHAPE`: a piece other than I spawns inside the 3 by 3 cells around the spawn
anchor; the set cells of the I piece are those of one orientation, all of them and no others (R166). -/
def ShapesFit (c : Config) : Prop :=
  ∀ t : Piece,
    if c.isI t = true then
      Fills (spawnLayer c t) (verticalAt c c.spawnX c.spawnY) ∨
        Fills (spawnLayer c t) (horizontalAt c c.spawnX c.spawnY)
    else LiesAt c t c.spawnX c.spawnY (spawnLayer c t)

/-- No command is in progress beyond what a command of the table leaves to do, and with `HALT = 1` nothing
but the response of the command that ended the session (R34, R241). -/
abbrev ContinuationLegal (s : State) : Prop :=
  (s.cont <:+ composeAndRespond ∨ s.cont <:+ gameOverMicros) ∧
    (s.halt = true → s.cont <:+ [Micro.respond 0#32])

/-- A counter of `w` bits after `k` increments (R15). -/
def counted (w k n : Nat) : Nat := if k = 0 then n else (n + k) % 2 ^ w

/-- Each counter holds a value of its width (R27, R32). -/
structure CountersFit (s : State) : Prop where
  msTick : s.msTick < 2 ^ s.cfg.tickW
  debTick : s.debTick < 2 ^ s.cfg.debW
  score : s.score < 2 ^ s.cfg.scoreW

/-- The two states agree on what the movement and rotation commands read: configuration, board, anchor, piece,
`HALT`. -/
structure SamePiece (s t : State) : Prop where
  cfg : t.cfg = s.cfg
  terrain : t.terrain = s.terrain
  active : t.active = s.active
  anchorX : t.anchorX = s.anchorX
  anchorY : t.anchorY = s.anchorY
  cur : t.cur = s.cur
  halt : t.halt = s.halt

/-- `OUT` shows what the chain holds, with the row before `SCAN` selected (R216, R217). -/
abbrev ShowsLastRow (s : State) : Prop :=
  s.sr = s.out ∧ s.out.extractLsb' 0 32 = selectWord (s.scan - 1#5)

/-- The response of a command that ran, with its value (R95). -/
abbrev ranWith (v : RespWord) : Option Response := some ⟨false, v⟩

/-- The response of a refused command, with its code (R95, R260). -/
abbrev refusedWith (code : RespWord) : Option Response := some ⟨true, code⟩

/-- A command word a session is played with: any word but those that decode to a command with which a host
sets a layer, the anchor or a piece by hand, or splits `DESC` into its parts. R38 names `WRT`, `WRA` and `LOCK`;
leaving out `WRCSR` and `LCLR` as well is the model's choice (DEDUCED, `notes/assumptions/21.md`). -/
def playedWord (w : CmdWord) : Bool :=
  match decodeCommand w with
  | .ok (.wrt _ _) | .ok (.wra _ _) | .ok (.wrcsr _ _) | .ok .lock | .ok .lclr => false
  | _ => true

/-- What holds in a session played with the game's commands: the configuration is well-formed with the
decided values, the layers do not overlap, the active layer lies in the footprint, and only played words are
waiting at the port (R38, R39; the played words are the model's choice, `notes/assumptions/21.md`). -/
structure Playing (s : State) : Prop where
  wf : s.cfg.wf = true
  decided : s.cfg.Decided
  apart : LayerExclusion s
  inFoot : ActiveInFootprint s
  words : ∀ w ∈ s.port, playedWord w = true

/-- A playable row, 8..31 (R7). -/
def playable (i : Fin 32) : Bool := decide (8 ≤ i.val)

/-- The playable rows of a layer, top first. -/
def playRows (v : Rows) : List Row := ((List.finRange 32).filter playable).map fun i => v[i]

end Sys2Proof.Machine
end

