-- ==== Sys2Proof/Certificates/Slice0/Obligations.lean ====
section
/-! DEFINITION. The statements about the model, for the provers. Each formalises rules of `spec/` or says that
it is the model's own; `OBLIGATIONS.json` lists them. -/

open Sys2Proof Sys2Proof.Machine

/-! ## Encoding -/

/-- Every operation, with every operand value its fields admit, is decoded from its encoding (R90 to R93,
R98). -/
def Obligations.DecodeOfEncodeIsTheInstruction : Prop :=
  ∀ i : Instr, decode (encode i) = .ok i

/-- Each command word has one meaning: a word that decodes is the encoding of what it decodes to. -/
def Obligations.EncodeOfDecodedWordIsTheWord : Prop :=
  ∀ (w : CmdWord) (i : Instr), decodeCommand w = .ok i → encode i = .command w

/-- The mask and match form of R91: a word decodes to the command of a table row exactly when
`cmd & mask = match`, with the mask of the row's format. -/
def Obligations.WordsDecodeByMaskAndMatch : Prop :=
  ∀ (w : CmdWord) (o : Opcode),
    decodeCommand w = .ok (o.instr (aField w) (dField w)) ↔
      w &&& (match o.format with
        | .n => 0xFFFFFFFF#32
        | .a => 0xFF00FFFF#32
        | .ad => 0xFF000000#32) = o.code.setWidth 32 <<< 24

/-- R94 (a) and (b) at the decoder: an `op` that is no row's, and an unused field that is not zero. -/
def Obligations.ReservedWordsAreRejectedByName : Prop :=
  ∀ w : CmdWord,
    ((∀ o : Opcode, opField w ≠ o.code) → decodeCommand w = .rejected .reservedOpcode) ∧
    (∀ o : Opcode, opField w = o.code →
      (o.format = .n → (aField w ≠ 0#8 ∨ dField w ≠ 0#16) →
        decodeCommand w = .rejected .unusedFieldNotZero) ∧
      (o.format = .a → dField w ≠ 0#16 → decodeCommand w = .rejected .unusedFieldNotZero))

/-- The words R99 writes out and one more of each other family from `spec/95_test_vectors.md`. The last clause is
the model's: R98 gives the tick line one bit, and the 8-bit row that stands for it is log entry 13. -/
def Obligations.SpecWordsDecode : Prop :=
  decodeTableWord 32 0x101FFFFF = some (.wrt 31#8 0xFFFF#16) ∧
  decodeTableWord 32 0x15050000 = some (.rdf 5#8) ∧
  decodeTableWord 32 0x18240070 = some (.wrg 2#4 4#4 0x0070#16) ∧
  decodeTableWord 32 0x45030000 = some (.desc 3#8) ∧
  decodeTableWord 32 0x30000000 = some .compose ∧
  decodeTableWord 32 0x21040063 = some (.wrcsr 0x04#8 99#16) ∧
  decodeTableWord 32 0x50000000 = some .rot ∧
  decodeTableWord 32 0x601F0000 = some (.isfull 31#8) ∧
  decodeTableWord 32 0x71050000 = some (.init 5#8) ∧
  decodeTableWord 32 0x00010000 = none ∧
  decodeTableWord 8 1 = some .tick

/-! ## The step, the port, the schedule -/

/-- A step is the move of the agent whose turn it is; with no turn scheduled, a free number of host moves
and then a TICK event are; a turn of the HOST agent with no command in progress and none presented changes
nothing (R6, R41, R266; the schedule as data and the idle turn are the model's, log entries 6 and 9). -/
def Obligations.StepMovesTheScheduledAgent : Prop :=
  (∀ (s : State) (t : Turn) (rest : List Turn),
    s.sched = t :: rest → step s = move t { s with sched := rest }) ∧
  (∀ s : State, s.sched = [] →
    step s = step { s with
      sched := List.replicate (Config.hostMoves s.draws) .host ++ [.tick]
      draws := s.draws + 1 }) ∧
  (∀ (s : State) (rest : List Turn), s.sched = .host :: rest → s.cont = [] → s.port = [] →
    step s = .next { s with sched := rest })

/-- A step runs the decoded instruction: the idle HOST agent takes the word presented at the port, which
decodes to `i`, and the step is `exec i`; a turn of the TICK agent is `exec` of the TICK event. -/
def Obligations.StepRunsTheDecodedInstruction : Prop :=
  (∀ (s : State) (w : CmdWord) (words : List CmdWord) (rest : List Turn) (i : Instr),
    s.sched = .host :: rest → s.cont = [] → s.port = w :: words → decodeCommand w = .ok i →
      step s = exec i { s with sched := rest, port := words }) ∧
  (∀ (s : State) (rest : List Turn), s.sched = .tick :: rest → step s = exec .tick { s with sched := rest })

/-- A selection presented to the machine is what its very next step runs, in every state. How it is presented is
the model's: `withFetchWord` makes the HOST idle and puts the word at the port (log entry 9), and the tick line is
an 8-bit row with value 1 (log entry 13; R98 gives it one bit). -/
def Obligations.PresentedSelectionRunsNext : Prop :=
  (∀ (s : State) (w : Nat) (i : Instr), decodeTableWord 32 w = some i →
    step (s.withFetchWord 32 w) = exec i { s with cont := [] }) ∧
  (∀ s : State, step (s.withFetchWord 8 1) = exec .tick s)

/-- A word that is no command: code 3 under `HALT = 1` unless its `op` is a read command's, else code 1; no
element of state changes and the HOST agent is ready for the next command (R94 a and b, R96, R101 steps 1 to
3). -/
def Obligations.IllegalWordIsRefusedAndNothingChanges : Prop :=
  ∀ (s : State) (w : CmdWord) (words : List CmdWord) (rest : List Turn) (e : DecodeError),
    s.sched = .host :: rest → s.cont = [] → s.port = w :: words → decodeCommand w = .rejected e →
      step s = .next { s with
        sched := rest
        port := words
        resp := refusedWith (if s.halt = true ∧ readsOnly w = false then 3#32 else 1#32) }

/-- Fairness (R266): from every state whose run never stops, a turn of the TICK agent comes. Applied to every
state of a run, TICK events occur infinitely often. -/
def Obligations.TickTurnsKeepComing : Prop :=
  ∀ s : State, (∀ k : Nat, ∃ t, Sys2Proof.core.run k s = .next t) →
    ∃ (k : Nat) (t : State), Sys2Proof.core.run k s = .next t ∧ (takeTurn t).1 = .tick

/-- The machine never stops on a configuration R293 allows: every step answers a next state. -/
def Obligations.EveryStepAnswersANextState : Prop :=
  ∀ s : State, s.cfg.wallMask ≠ s.cfg.complete → ∃ t, step s = .next t

/-! ## Reset -/

/-- The reset values of R40; `SR` and `OUT` are left unspecified. -/
def Obligations.ResetValues : Prop :=
  (∀ i : Fin 32, State.reset.terrain[i] = 0#16 ∧ State.reset.active[i] = 0#16 ∧ State.reset.frame[i] = 0#16) ∧
  (∀ k : Fin 2, State.reset.preview[k] = 0#16) ∧
  (∀ (p : Fin 3) (k : Fin 5), State.reset.glyph[p][k] = 0#16) ∧
  State.reset.anchorX = 0#4 ∧ State.reset.anchorY = 0#5 ∧ State.reset.cur = 0 ∧ State.reset.nextPiece = 0 ∧
  State.reset.score = 0 ∧ State.reset.halt = false ∧ State.reset.scan = 0#5 ∧
  State.reset.msTick = 0 ∧ State.reset.debTick = 0 ∧ State.reset.cont = []

/-- The external reset (R290), at any time, from any state: every element of R40 takes its reset value; the
configuration stays (R41). That the host's pending words and the rest of the schedule stay, and that reset comes as
a scheduled turn, is the model's (log entry 19; R290 does not say). -/
def Obligations.ExternalResetRestoresResetValues : Prop :=
  ∀ (s : State) (rest : List Turn), s.sched = .reset :: rest →
    ∃ t, step s = .next t ∧
      SameHostState { State.reset with cfg := s.cfg } t ∧ t.scan = 0#5 ∧ t.msTick = 0 ∧ t.debTick = 0 ∧
      t.cont = [] ∧ t.cfg = s.cfg ∧ t.port = s.port ∧ t.sched = rest

/-! ## Element access -/

/-- `RDT`, `RDA`, `RDF` of a row respond with the stored row, zero-extended, and change nothing (R112, R114,
R116, R65). -/
def Obligations.RowReadsReturnTheStoredRow : Prop :=
  ∀ (s : State) (a : BitVec 8) (h : a.toNat < 32),
    exec (.rdt a) s = .next { s with resp := ranWith (s.terrain[a.toNat].setWidth 32) } ∧
    exec (.rda a) s = .next { s with resp := ranWith (s.active[a.toNat].setWidth 32) } ∧
    exec (.rdf a) s = .next { s with resp := ranWith (s.frame[a.toNat].setWidth 32) }

/-- `WRT`, `WRA`, `WRF` write one row of their layer and nothing else (R111, R113, R115). -/
def Obligations.RowWritesChangeOneRow : Prop :=
  ∀ (s : State) (a : BitVec 8) (v : Row), s.halt = false → a.toNat < 32 →
    (∃ t, exec (.wrt a v) s = .next t ∧ (∀ j : Fin 32, t.terrain[j] = if j.val = a.toNat then v else s.terrain[j]) ∧
      t = { s with terrain := t.terrain, resp := ranWith 0#32 }) ∧
    (∃ t, exec (.wra a v) s = .next t ∧ (∀ j : Fin 32, t.active[j] = if j.val = a.toNat then v else s.active[j]) ∧
      t = { s with active := t.active, resp := ranWith 0#32 }) ∧
    (∃ t, exec (.wrf a v) s = .next t ∧ (∀ j : Fin 32, t.frame[j] = if j.val = a.toNat then v else s.frame[j]) ∧
      t = { s with frame := t.frame, resp := ranWith 0#32 })

/-- `WRP`, `RDP`, `WRG`, `RDG` access one row of the preview or glyph buffers (R117 to R120). -/
def Obligations.OverlayBufferAccess : Prop :=
  (∀ (s : State) (a : BitVec 8) (h : a.toNat < 2),
    exec (.rdp a) s = .next { s with resp := ranWith (s.preview[a.toNat].setWidth 32) } ∧
    ∀ v : Row, s.halt = false →
      ∃ t, exec (.wrp a v) s = .next t ∧ (∀ j : Fin 2, t.preview[j] = if j.val = a.toNat then v else s.preview[j]) ∧
        t = { s with preview := t.preview, resp := ranWith 0#32 }) ∧
  (∀ (s : State) (p k : BitVec 4) (hp : p.toNat < 3) (hk : k.toNat < 5),
    exec (.rdg p k) s = .next { s with resp := ranWith (s.glyph[p.toNat][k.toNat].setWidth 32) } ∧
    ∀ v : Row, s.halt = false →
      ∃ t, exec (.wrg p k v) s = .next t ∧
        (∀ (q : Fin 3) (j : Fin 5),
          t.glyph[q][j] = if q.val = p.toNat ∧ j.val = k.toNat then v else s.glyph[q][j]) ∧
        t = { s with glyph := t.glyph, resp := ranWith 0#32 })

/-- An operand index or draw out of range: code 2, nothing changes; a read command's whatever `HALT` is, another
command's while not halted (R63, R94 c, R101 step 4, R260). -/
def Obligations.OutOfRangeOperandIsRefused : Prop :=
  ∀ (s : State) (i : Instr),
    ((∃ a : BitVec 8, 31 < a.toNat ∧ (i = .rdt a ∨ i = .rda a ∨ i = .rdf a ∨ i = .isfull a)) ∨
      (∃ a : BitVec 8, 1 < a.toNat ∧ i = .rdp a) ∨
      (∃ p k : BitVec 4, (2 < p.toNat ∨ 4 < k.toNat) ∧ i = .rdg p k) →
        exec i s = .next { s with resp := refusedWith 2#32 }) ∧
    (s.halt = false →
      (∃ (a : BitVec 8) (v : Row), 31 < a.toNat ∧ (i = .wrt a v ∨ i = .wra a v ∨ i = .wrf a v)) ∨
      (∃ (a : BitVec 8) (v : Row), 1 < a.toNat ∧ i = .wrp a v) ∨
      (∃ (p k : BitVec 4) (v : Row), (2 < p.toNat ∨ 4 < k.toNat) ∧ i = .wrg p k v) ∨
      (∃ a : BitVec 8, 6 < a.toNat ∧ (i = .desc a ∨ i = .spawn a ∨ i = .init a)) →
        exec i s = .next { s with resp := refusedWith 2#32 })

/-- Under `HALT = 1` every host command but the read commands is refused with code 3 and changes nothing
(R241, R263, R101 step 1), whatever its operands. -/
def Obligations.HaltedCommandsAreRefused : Prop :=
  ∀ (s : State) (i : Instr) (o : Opcode) (a : BitVec 8) (d : BitVec 16),
    s.halt = true → i.fields = some (o, a, d) → o.isRead = false →
      exec i s = .next { s with resp := refusedWith 3#32 }

/-- The read commands of R263 (`NOP`, `RDT`, `RDA`, `RDF`, `RDP`, `RDG`, `RDCSR`, `ISFULL`, `CANDESC`,
`CANSHL`, `CANSHR`) complete in every state and write none of it (R65, R149 a). -/
def Obligations.ReadCommandsWriteNoState : Prop :=
  ∀ (s : State) (i : Instr) (o : Opcode) (a : BitVec 8) (d : BitVec 16),
    i.fields = some (o, a, d) → o.isRead = true → ∃ r : Response, exec i s = .next { s with resp := some r }

/-- The read values of the CSR table, and code 4 for a reserved number (R37, R121, R29, R30). -/
def Obligations.CsrReadValues : Prop :=
  ∀ s : State,
    exec (.rdcsr 0x00#8) s = .next { s with resp := ranWith (if s.halt = true then 1#32 else 0#32) } ∧
    exec (.rdcsr 0x01#8) s = .next { s with resp := ranWith (BitVec.ofNat 32 s.scan.toNat) } ∧
    exec (.rdcsr 0x02#8) s = .next { s with resp := ranWith (BitVec.ofNat 32 s.msTick) } ∧
    exec (.rdcsr 0x03#8) s = .next { s with resp := ranWith (BitVec.ofNat 32 s.debTick) } ∧
    exec (.rdcsr 0x04#8) s = .next { s with resp := ranWith (BitVec.ofNat 32 s.score) } ∧
    exec (.rdcsr 0x05#8) s = .next { s with resp := ranWith (BitVec.ofNat 32 (min s.score 33 * 3)) } ∧
    exec (.rdcsr 0x06#8) s = .next { s with resp := ranWith (BitVec.ofNat 32 s.anchorX.toNat) } ∧
    exec (.rdcsr 0x07#8) s = .next { s with resp := ranWith (BitVec.ofNat 32 s.anchorY.toNat) } ∧
    exec (.rdcsr 0x08#8) s = .next { s with resp := ranWith (BitVec.ofNat 32 s.cur.val) } ∧
    exec (.rdcsr 0x09#8) s = .next { s with resp := ranWith (BitVec.ofNat 32 s.nextPiece.val) } ∧
    exec (.rdcsr 0x0A#8) s = .next { s with
      resp := ranWith (BitVec.ofNat 32
        (s.score / 100 % 10 * 256 + s.score / 10 % 10 * 16 + s.score % 10)) } ∧
    ∀ n : BitVec 8, 0x0A < n.toNat → exec (.rdcsr n) s = .next { s with resp := refusedWith 4#32 }

/-- `WRCSR`: code 4 for a reserved or read-only CSR, code 2 for a value out of range, else the write
(R122, R37). `SCORE` takes all 16 bits; that a configuration with a narrower `SCORE` refuses a value that does not
fit is the model's (log entry 3, from R92). -/
def Obligations.CsrWriteEffects : Prop :=
  ∀ (s : State) (v : BitVec 16), s.halt = false →
    (∀ n : BitVec 8, n.toNat ≤ 3 ∨ n = 0x05#8 ∨ 0x0A ≤ n.toNat →
      exec (.wrcsr n v) s = .next { s with resp := refusedWith 4#32 }) ∧
    (s.cfg.scoreW = 16 ∨ v.toNat < 2 ^ s.cfg.scoreW →
      exec (.wrcsr 0x04#8 v) s = .next { s with score := v.toNat, resp := ranWith 0#32 }) ∧
    (2 ^ s.cfg.scoreW ≤ v.toNat → exec (.wrcsr 0x04#8 v) s = .next { s with resp := refusedWith 2#32 }) ∧
    (15 < v.toNat → exec (.wrcsr 0x06#8 v) s = .next { s with resp := refusedWith 2#32 }) ∧
    (v.toNat ≤ 15 →
      exec (.wrcsr 0x06#8 v) s = .next { s with anchorX := BitVec.ofNat 4 v.toNat, resp := ranWith 0#32 }) ∧
    (31 < v.toNat → exec (.wrcsr 0x07#8 v) s = .next { s with resp := refusedWith 2#32 }) ∧
    (v.toNat ≤ 31 →
      exec (.wrcsr 0x07#8 v) s = .next { s with anchorY := BitVec.ofNat 5 v.toNat, resp := ranWith 0#32 }) ∧
    (6 < v.toNat →
      exec (.wrcsr 0x08#8 v) s = .next { s with resp := refusedWith 2#32 } ∧
      exec (.wrcsr 0x09#8 v) s = .next { s with resp := refusedWith 2#32 }) ∧
    (∀ h : v.toNat < 7,
      exec (.wrcsr 0x08#8 v) s = .next { s with cur := ⟨v.toNat, h⟩, resp := ranWith 0#32 } ∧
      exec (.wrcsr 0x09#8 v) s = .next { s with nextPiece := ⟨v.toNat, h⟩, resp := ranWith 0#32 })

/-- `NOP` responds 0 and changes no state, under `HALT` too; `CLRMS` and `CLRDB` clear their counter and
nothing else (R110, R123, R124). -/
def Obligations.NopAndCounterClears : Prop :=
  (∀ s : State, exec .nop s = .next { s with resp := ranWith 0#32 }) ∧
  ∀ s : State, s.halt = false →
    exec .clrms s = .next { s with msTick := 0, resp := ranWith 0#32 } ∧
    exec .clrdb s = .next { s with debTick := 0, resp := ranWith 0#32 }

/-! ## Glyphs, preview, frame -/

/-- `GLYPHS` draws the three digits of the score from `FONT`, `PREVIEW` writes the two rows of
`PREVIEW_SHAPE(NEXT)`; neither changes anything else (R195, R196). -/
def Obligations.GlyphsAndPreviewAreDrawn : Prop :=
  ∀ s : State, s.halt = false →
    (∃ t, exec .glyphs s = .next t ∧
      (∀ k : Fin 5,
        t.glyph[0][k] = (s.cfg.font[0][s.score / 100 % 10]'(Nat.mod_lt _ (by decide)))[k] ∧
        t.glyph[1][k] = (s.cfg.font[1][s.score / 10 % 10]'(Nat.mod_lt _ (by decide)))[k] ∧
        t.glyph[2][k] = (s.cfg.font[2][s.score % 10]'(Nat.mod_lt _ (by decide)))[k]) ∧
      t = { s with glyph := t.glyph, resp := ranWith 0#32 }) ∧
    (∃ t, exec .preview s = .next t ∧
      t.preview[0] = s.cfg.previewShape[s.nextPiece].1 ∧ t.preview[1] = s.cfg.previewShape[s.nextPiece].2 ∧
      t = { s with preview := t.preview, resp := ranWith 0#32 })

/-- What `COMPOSE()` still has to do leads, whatever TICK events fall between its 39 row writes, to the end
state of R197 and the response, and changes nothing else but what the ticks change (R197, R198, R70). -/
def Obligations.PendingComposeEndsInTheComposedFrame : Prop :=
  ∀ (s : State) (later : List Micro) (turns : List Turn),
    s.cont = composeAndRespond ++ later → Turn.reset ∉ turns → turns.count .host = 40 →
      ∃ t, runTurns turns s = .next t ∧ (∀ i : Fin 32, t.frame[i] = composedRow s i) ∧
        t = { s with
          frame := t.frame
          cont := later
          resp := ranWith 0#32
          scan := s.scan + BitVec.ofNat 5 (turns.count .tick)
          msTick := counted s.cfg.tickW (turns.count .tick) s.msTick
          debTick := counted s.cfg.debW (turns.count .tick) s.debTick
          sr := t.sr
          out := t.out }

/-- `COMPOSE` answers a next state from which its row writes, with any ticks between them, end in
`frame[i] = terrain[i] | active[i] | P(i) | G(i)` for every row; nothing but `frame` is written by the host
(R197). -/
def Obligations.ComposeBuildsTheFrame : Prop :=
  ∀ s : State, s.halt = false →
    ∃ t, exec .compose s = .next t ∧ t = { s with cont := composeAndRespond ++ s.cont, resp := none } ∧
      ∀ turns : List Turn, Turn.reset ∉ turns → turns.count .host = 40 →
        ∃ u, runTurns turns t = .next u ∧ (∀ i : Fin 32, u.frame[i] = composedRow s i) ∧
          u.resp = ranWith 0#32 ∧ u.cont = s.cont ∧
          SameHostState { s with frame := u.frame } u

/-- A row of the frame during a `COMPOSE()` is one of the four values R198 lists: the value before, the base
value, the base value with the preview overlay, the final value. -/
def Obligations.TornFrameRowIsOneOfFourValues : Prop :=
  ∀ (s t : State) (later : List Micro) (turns : List Turn),
    s.cont = composeAndRespond ++ later → Turn.reset ∉ turns → turns.count .host ≤ 40 →
      runTurns turns s = .next t →
        ∀ i : Fin 32,
          t.frame[i] = s.frame[i] ∨ t.frame[i] = s.terrain[i] ||| s.active[i] ∨
            t.frame[i] = s.terrain[i] ||| s.active[i] ||| previewOverlay s i ∨ t.frame[i] = composedRow s i

/-- Composing twice with no state change between gives the same frame (R199). -/
def Obligations.ComposeIsIdempotent : Prop :=
  ∀ (s t u v : State) (turns turns' : List Turn),
    s.halt = false → s.cont = [] → Turn.reset ∉ turns → Turn.reset ∉ turns' →
    turns.count .host = 40 → turns'.count .host = 40 →
    exec .compose s = .next t → runTurns turns t = .next u →
    ∀ t', exec .compose u = .next t' → runTurns turns' t' = .next v → v.frame = u.frame

/-! ## The collision tester and the movement commands -/

/-- `CANDESC` answers 1 exactly when the lowest row is empty and no active row overlaps the terrain row below
it; it writes no state (R141). -/
def Obligations.CanDescendTest : Prop :=
  ∀ s : State,
    ((s.active[31] = 0#16 ∧ ∀ i : Fin 31, s.active[i.val] &&& s.terrain[i.val + 1] = 0#16) →
      exec .candesc s = .next { s with resp := ranWith 1#32 }) ∧
    (¬(s.active[31] = 0#16 ∧ ∀ i : Fin 31, s.active[i.val] &&& s.terrain[i.val + 1] = 0#16) →
      exec .candesc s = .next { s with resp := ranWith 0#32 })

/-- `CANSHL` and `CANSHR` answer 1 exactly when no footprint row, shifted, overlaps the terrain row; they
write no state (R142, R143, R14). -/
def Obligations.CanShiftTests : Prop :=
  ∀ s : State,
    ((∀ r : Fin 32, s.anchorY.toNat ≤ r.val + s.cfg.footUp → r.val ≤ s.anchorY.toNat + s.cfg.footDn →
        s.active[r] <<< 1 &&& s.terrain[r] = 0#16) →
      exec .canshl s = .next { s with resp := ranWith 1#32 }) ∧
    ((∃ r : Fin 32, s.anchorY.toNat ≤ r.val + s.cfg.footUp ∧ r.val ≤ s.anchorY.toNat + s.cfg.footDn ∧
        s.active[r] <<< 1 &&& s.terrain[r] ≠ 0#16) →
      exec .canshl s = .next { s with resp := ranWith 0#32 }) ∧
    ((∀ r : Fin 32, s.anchorY.toNat ≤ r.val + s.cfg.footUp → r.val ≤ s.anchorY.toNat + s.cfg.footDn →
        s.active[r] >>> 1 &&& s.terrain[r] = 0#16) →
      exec .canshr s = .next { s with resp := ranWith 1#32 }) ∧
    ((∃ r : Fin 32, s.anchorY.toNat ≤ r.val + s.cfg.footUp ∧ r.val ≤ s.anchorY.toNat + s.cfg.footDn ∧
        s.active[r] >>> 1 &&& s.terrain[r] ≠ 0#16) →
      exec .canshr s = .next { s with resp := ranWith 0#32 })

/-- The source's form of the test and the spec's are the same predicate (R144). -/
def Obligations.ShiftedOverlapFormsAgree : Prop :=
  ∀ p q : Row, overlap (shl16 p) q = overlap p (shr16 q) ∧ overlap (shr16 p) q = overlap p (shl16 q)

/-- `SHL` (R145, with the predicate of R142): not halted it completes in every state. Where a footprint row, shifted,
overlaps terrain it changes nothing; where none does and `x = 15` it is refused with code 5; else the footprint rows
are shifted, the anchor moves, and `COMPOSE()` follows. -/
def Obligations.ShiftLeftEffect : Prop :=
  ∀ s : State, s.halt = false →
    ((∃ r : Fin 32, s.anchorY.toNat ≤ r.val + s.cfg.footUp ∧ r.val ≤ s.anchorY.toNat + s.cfg.footDn ∧
        s.active[r] <<< 1 &&& s.terrain[r] ≠ 0#16) →
      exec .shl s = .next { s with resp := ranWith 0#32 }) ∧
    ((∀ r : Fin 32, s.anchorY.toNat ≤ r.val + s.cfg.footUp → r.val ≤ s.anchorY.toNat + s.cfg.footDn →
        s.active[r] <<< 1 &&& s.terrain[r] = 0#16) →
      (s.anchorX = 15#4 → exec .shl s = .next { s with resp := refusedWith 5#32 }) ∧
      (s.anchorX ≠ 15#4 →
        ∃ t, exec .shl s = .next t ∧
          (∀ r : Fin 32, t.active[r] =
            if s.anchorY.toNat ≤ r.val + s.cfg.footUp ∧ r.val ≤ s.anchorY.toNat + s.cfg.footDn
            then s.active[r] <<< 1 else s.active[r]) ∧
          t.anchorX.toNat = s.anchorX.toNat + 1 ∧
          t = { s with
            active := t.active
            anchorX := t.anchorX
            cont := composeAndRespond ++ s.cont
            resp := none }))

/-- `SHR`, the mirror (R146, with the predicate of R143). -/
def Obligations.ShiftRightEffect : Prop :=
  ∀ s : State, s.halt = false →
    ((∃ r : Fin 32, s.anchorY.toNat ≤ r.val + s.cfg.footUp ∧ r.val ≤ s.anchorY.toNat + s.cfg.footDn ∧
        s.active[r] >>> 1 &&& s.terrain[r] ≠ 0#16) →
      exec .shr s = .next { s with resp := ranWith 0#32 }) ∧
    ((∀ r : Fin 32, s.anchorY.toNat ≤ r.val + s.cfg.footUp → r.val ≤ s.anchorY.toNat + s.cfg.footDn →
        s.active[r] >>> 1 &&& s.terrain[r] = 0#16) →
      (s.anchorX = 0#4 → exec .shr s = .next { s with resp := refusedWith 5#32 }) ∧
      (s.anchorX ≠ 0#4 →
        ∃ t, exec .shr s = .next t ∧
          (∀ r : Fin 32, t.active[r] =
            if s.anchorY.toNat ≤ r.val + s.cfg.footUp ∧ r.val ≤ s.anchorY.toNat + s.cfg.footDn
            then s.active[r] >>> 1 else s.active[r]) ∧
          t.anchorX.toNat + 1 = s.anchorX.toNat ∧
          t = { s with
            active := t.active
            anchorX := t.anchorX
            cont := composeAndRespond ++ s.cont
            resp := none }))

/-- A committed `SHL` and then a committed `SHR` restore the active layer and the anchor, where no bit was
shifted out (R149 c). The second command runs in any state with the same piece and board as the first left, such as
the one in which the composition of the first has ended (`ComposeBuildsTheFrame`). -/
def Obligations.ShiftLeftThenRightRestores : Prop :=
  ∀ s t t' u : State, s.halt = false →
    (∀ r : Fin 32, inFoot s.cfg s.anchorY r = true → s.active[r].getLsbD 15 = false) →
    exec .shl s = .next t → t.resp = none → SamePiece t t' → exec .shr t' = .next u → u.resp = none →
      u.active = s.active ∧ u.anchorX = s.anchorX ∧ u.anchorY = s.anchorY

/-- `LOCK`: the union of the layers, `active` and everything else as before (R147). -/
def Obligations.LockMergesTheLayers : Prop :=
  ∀ s : State, s.halt = false →
    ∃ t, exec .lock s = .next t ∧ (∀ i : Fin 32, t.terrain[i] = s.terrain[i] ||| s.active[i]) ∧
      t = { s with terrain := t.terrain, resp := ranWith 0#32 }

/-- `DESC r` on its shift path (R148, with the predicate of R141): where the lowest row is empty and no active row
overlaps the terrain row below it, code 5 at `y = 31`, else all 32 rows move down by one, the anchor with them, and
`COMPOSE()` follows. -/
def Obligations.DescendShiftPath : Prop :=
  ∀ (s : State) (r : BitVec 8), s.halt = false → r.toNat ≤ 6 →
    (s.active[31] = 0#16 ∧ ∀ i : Fin 31, s.active[i.val] &&& s.terrain[i.val + 1] = 0#16) →
      (s.anchorY = 31#5 → exec (.desc r) s = .next { s with resp := refusedWith 5#32 }) ∧
      (s.anchorY ≠ 31#5 →
        ∃ t, exec (.desc r) s = .next t ∧
          t.active[0] = 0#16 ∧ (∀ i : Fin 31, t.active[i.val + 1] = s.active[i.val]) ∧
          t.anchorY.toNat = s.anchorY.toNat + 1 ∧
          t = { s with
            active := t.active
            anchorY := t.anchorY
            cont := composeAndRespond ++ s.cont
            resp := none })

/-- `DESC r` on its lock path (R148, with the predicate of R141): where the lowest row is not empty or an active row
overlaps the terrain row below it, it does what `LOCK`, then `LCLR`, then `SPAWN r` do, in one command with the one
response of the spawn. -/
def Obligations.DescendLockPathIsLockClearSpawn : Prop :=
  ∀ (s : State) (r : BitVec 8), s.halt = false → r.toNat ≤ 6 → s.cfg.wallMask ≠ s.cfg.complete →
    ¬(s.active[31] = 0#16 ∧ ∀ i : Fin 31, s.active[i.val] &&& s.terrain[i.val + 1] = 0#16) →
      ∃ a b c, exec .lock s = .next a ∧ exec .lclr a = .next b ∧ exec (.spawn r) b = .next c ∧
        exec (.desc r) s = .next c

/-! ## The layers stay apart -/

/-- The game's moves preserve layer exclusion from every state (R38, R149 b): `SHL`, `SHR`, `ROT`, the shift
path of `DESC`, and `SPAWN`. -/
def Obligations.MovesPreserveLayerExclusion : Prop :=
  ∀ (s t : State) (i : Instr), LayerExclusion s →
    (i = .shl ∨ i = .shr ∨ i = .rot ∨ (∃ r, i = .spawn r) ∨
      (exec .candesc s = .next { s with resp := ranWith 1#32 } ∧ ∃ r, i = .desc r)) →
    exec i s = .next t → LayerExclusion t

/-- The layers stay apart in every state of a session played with the game's commands, whatever the schedule:
an invariant of every step (R38). Which commands those are is the model's choice (log entry 21, DEDUCED): R38 names
`WRT`, `WRA` and `LOCK` as commands that can break the exclusion, and the model leaves out `WRCSR` and `LCLR` too. -/
def Obligations.PlayedSessionKeepsLayersApart : Prop :=
  ∀ s t : State, Playing s → step s = .next t → Playing t

/-- The piece stays at its anchor in every state of a played session on a configuration with the shapes R9
allows: an invariant of every step (R39). Which commands the session is played with is the model's choice (log entry 21,
DEDUCED): all but `WRT`, `WRA`, `LOCK`, which R38 names, and `WRCSR`, `LCLR`, which it does not. -/
def Obligations.PlayedPieceStaysAtItsAnchor : Prop :=
  ∀ s t : State, Playing s → ShapesFit s.cfg → PieceAtAnchor s → step s = .next t → PieceAtAnchor t

/-! ## Rotation -/

/-- `ROT` of a piece other than I whose neighbourhood exists (R160 to R165, R168): the new cell (di, dj) is
the old cell (dj, -di), the rest of the three rows becomes 0, no other row changes, and `COMPOSE()` follows;
where a set new cell is over terrain nothing changes. -/
def Obligations.RotationTurnsTheNeighbourhood : Prop :=
  ∀ s : State, s.halt = false → s.cfg.isI s.cur = false → 1 ≤ s.anchorX.toNat → s.anchorX.toNat ≤ 14 →
    1 ≤ s.anchorY.toNat → s.anchorY.toNat ≤ 30 →
    ((∃ di ∈ ([-1, 0, 1] : List Int), ∃ dj ∈ ([-1, 0, 1] : List Int),
        occupied s dj (-di) = true ∧ blocked s di dj = true) →
      exec .rot s = .next { s with resp := ranWith 0#32 }) ∧
    ((∀ di ∈ ([-1, 0, 1] : List Int), ∀ dj ∈ ([-1, 0, 1] : List Int),
        occupied s dj (-di) = true → blocked s di dj = false) →
      ∃ t, exec .rot s = .next t ∧
        (∀ di ∈ ([-1, 0, 1] : List Int), ∀ dj ∈ ([-1, 0, 1] : List Int),
          occupied t di dj = occupied s dj (-di)) ∧
        (∀ (i : Fin 32) (c : Fin 16),
          ((i.val ≤ s.anchorY.toNat + 1 ∧ s.anchorY.toNat ≤ i.val + 1) →
            ¬(c.val ≤ s.anchorX.toNat + 1 ∧ s.anchorX.toNat ≤ c.val + 1) → t.active[i].getLsbD c.val = false) ∧
          (¬(i.val ≤ s.anchorY.toNat + 1 ∧ s.anchorY.toNat ≤ i.val + 1) → t.active[i] = s.active[i])) ∧
        t = { s with active := t.active, cont := composeAndRespond ++ s.cont, resp := none })

/-- `ROT` outside the margins: code 5, nothing changes; for the I piece, where a cell of either orientation does
not exist, which with the offsets taken is `x` outside 1..13 or `y` outside 1..29 (R163). With the numbering taken
the I piece is `CUR = 0` (R26). -/
def Obligations.RotationOutsideTheMarginsIsRefused : Prop :=
  ∀ s : State, s.halt = false →
    (s.cfg.isI s.cur = false →
      ¬(1 ≤ s.anchorX.toNat ∧ s.anchorX.toNat ≤ 14 ∧ 1 ≤ s.anchorY.toNat ∧ s.anchorY.toNat ≤ 30) →
      exec .rot s = .next { s with resp := refusedWith 5#32 }) ∧
    (s.cfg.isI s.cur = true →
      (∃ p ∈ verticalCells s ++ horizontalCells s, ¬(0 ≤ p.1 ∧ p.1 ≤ 31 ∧ 0 ≤ p.2 ∧ p.2 ≤ 15)) →
      exec .rot s = .next { s with resp := refusedWith 5#32 }) ∧
    (s.cfg.Decided →
      (s.cfg.isI s.cur = true ↔ s.cur = 0) ∧
      ((∃ p ∈ verticalCells s ++ horizontalCells s, ¬(0 ≤ p.1 ∧ p.1 ≤ 31 ∧ 0 ≤ p.2 ∧ p.2 ≤ 15)) ↔
        ¬(1 ≤ s.anchorX.toNat ∧ s.anchorX.toNat ≤ 13 ∧ 1 ≤ s.anchorY.toNat ∧ s.anchorY.toNat ≤ 29)))

/-- `ROT` of the I piece inside the margins (R166, R167): vertical is tested first; neither orientation is
code 5; a new cell over terrain changes nothing; else the old cells are cleared, the new ones set, every
other cell kept, and `COMPOSE()` follows. -/
def Obligations.IPieceToggles : Prop :=
  ∀ s : State, s.halt = false → s.cfg.isI s.cur = true → marginsI s = true →
    ((allSet s.active (verticalCells s) = false ∧ allSet s.active (horizontalCells s) = false) →
      exec .rot s = .next { s with resp := refusedWith 5#32 }) ∧
    (∀ old new : List Cell,
      (allSet s.active (verticalCells s) = true ∧ old = verticalCells s ∧ new = horizontalCells s) ∨
      (allSet s.active (verticalCells s) = false ∧ allSet s.active (horizontalCells s) = true ∧
        old = horizontalCells s ∧ new = verticalCells s) →
      (someSet s.terrain new = true → exec .rot s = .next { s with resp := ranWith 0#32 }) ∧
      (someSet s.terrain new = false →
        ∃ t, exec .rot s = .next t ∧
          (∀ p : Cell, cellExists p = true →
            cellBit t.active p = if p ∈ new then true else if p ∈ old then false else cellBit s.active p) ∧
          t = { s with active := t.active, cont := composeAndRespond ++ s.cont, resp := none }))

/-- Four committed rotations of a piece other than I restore the active layer, where the three rows held no
bit outside the neighbourhood; two committed toggles of the I piece do, where of the cells of both orientations
the layer holds those of one (R169). Each later command runs in any state with the same piece and board as the one
before left, such as the one in which its composition has ended (`ComposeBuildsTheFrame`). -/
def Obligations.RotationRoundTrips : Prop :=
  (∀ s a a' b b' c c' d : State, s.halt = false → s.cfg.isI s.cur = false →
    (∀ (i : Fin 32) (k : Fin 16), i.val ≤ s.anchorY.toNat + 1 → s.anchorY.toNat ≤ i.val + 1 →
      s.active[i].getLsbD k.val = true → k.val ≤ s.anchorX.toNat + 1 ∧ s.anchorX.toNat ≤ k.val + 1) →
    exec .rot s = .next a → a.resp = none → SamePiece a a' →
    exec .rot a' = .next b → b.resp = none → SamePiece b b' →
    exec .rot b' = .next c → c.resp = none → SamePiece c c' →
    exec .rot c' = .next d → d.resp = none → d.active = s.active) ∧
  (∀ s a a' b : State, s.halt = false → s.cfg.isI s.cur = true → s.cfg.Decided →
    ((∀ p ∈ verticalCells s ++ horizontalCells s, (cellBit s.active p = true ↔ p ∈ verticalCells s)) ∨
      (∀ p ∈ verticalCells s ++ horizontalCells s, (cellBit s.active p = true ↔ p ∈ horizontalCells s))) →
    exec .rot s = .next a → a.resp = none → SamePiece a a' →
    exec .rot a' = .next b → b.resp = none → b.active = s.active)

/-! ## Line clear -/

/-- `ISFULL`: equality with the sentinel on all 16 bits (R180). -/
def Obligations.IsFullTest : Prop :=
  ∀ (s : State) (a : BitVec 8) (h : a.toNat < 32),
    exec (.isfull a) s =
      .next { s with resp := ranWith (if s.terrain[a.toNat] = s.cfg.complete then 1#32 else 0#32) } ∧
    s.cfg.complete = 0xFFFF#16

/-- `LCLR` (R181 to R183): it ends; the playable rows that were not complete keep their order, pushed toward
row 31, and `WALL_MASK` fills the rows above; rows 0..7 stay; the score grows by the number of rows cleared;
the glyphs follow the new score if a row was cleared and stay otherwise; nothing else changes. -/
def Obligations.LineClearCompacts : Prop :=
  ∀ s : State, s.halt = false → s.cfg.wallMask ≠ s.cfg.complete →
    ∃ t, exec .lclr s = .next t ∧
      playRows t.terrain =
        List.replicate ((playRows s.terrain).count s.cfg.complete) s.cfg.wallMask ++
          (playRows s.terrain).filter (· != s.cfg.complete) ∧
      (∀ i : Fin 32, i.val < 8 → t.terrain[i] = s.terrain[i]) ∧
      (∀ i : Fin 32, 8 ≤ i.val → t.terrain[i] ≠ s.cfg.complete) ∧
      t.score = counted s.cfg.scoreW ((playRows s.terrain).count s.cfg.complete) s.score ∧
      ((∀ i : Fin 32, 8 ≤ i.val → s.terrain[i] ≠ s.cfg.complete) → t.glyph = s.glyph) ∧
      ((∃ i : Fin 32, 8 ≤ i.val ∧ s.terrain[i] = s.cfg.complete) → t.glyph = t.drawGlyphs.glyph) ∧
      t = { s with terrain := t.terrain, score := t.score, glyph := t.glyph, resp := ranWith 0#32 }

/-- With `WALL_MASK = COMPLETE` a complete row makes `LCLR` loop for ever (R182): the model stops it by
name. -/
def Obligations.EndlessLineClearFaults : Prop :=
  ∀ s : State, s.halt = false → s.cfg.wallMask = s.cfg.complete →
    (∃ i : Fin 32, 8 ≤ i.val ∧ s.terrain[i] = s.cfg.complete) →
      exec .lclr s = .fault .lineClearEndless

/-! ## Session -/

/-- `INIT r0` (R236). -/
def Obligations.InitStartsASession : Prop :=
  ∀ (s : State) (a : BitVec 8) (h : a.toNat < 7), s.halt = false →
    ∃ t, exec (.init a) s = .next t ∧
      (∀ i : Fin 32, t.terrain[i] = if i.val < 8 then 0#16 else s.cfg.wallMask) ∧
      (∀ i : Fin 32, t.active[i] = 0#16) ∧ t.preview[0] = 0#16 ∧ t.preview[1] = 0#16 ∧ t.score = 0 ∧
      (∀ (p : Fin 3) (k : Fin 5), t.glyph[p][k] = s.cfg.font[p][0][k]) ∧
      t.anchorX = s.cfg.spawnX ∧ t.anchorY = s.cfg.spawnY ∧ t.cur = ⟨a.toNat, h⟩ ∧ t.nextPiece = ⟨a.toNat, h⟩ ∧
      t = { s with
        terrain := t.terrain
        active := t.active
        preview := t.preview
        score := t.score
        glyph := t.glyph
        anchorX := t.anchorX
        anchorY := t.anchorY
        cur := t.cur
        nextPiece := t.nextPiece
        cont := composeAndRespond ++ s.cont
        resp := none }

/-- `SPAWN r` where neither shape row of the promoted piece overlaps terrain (R237, R238). -/
def Obligations.SpawnPlacesThePiece : Prop :=
  ∀ (s : State) (a : BitVec 8) (h : a.toNat < 7), s.halt = false →
    s.cfg.shape[s.nextPiece].1 &&& s.terrain[shapeRow0 s.cfg] = 0#16 →
    s.cfg.shape[s.nextPiece].2 &&& s.terrain[shapeRow1 s.cfg] = 0#16 →
    ∃ t, exec (.spawn a) s = .next t ∧
      (∀ i : Fin 32, t.active[i] =
        if i.val = s.cfg.shapeRow0.val then s.cfg.shape[s.nextPiece].1
        else if i.val = s.cfg.shapeRow0.val + 1 then s.cfg.shape[s.nextPiece].2
        else if s.anchorY.toNat ≤ i.val + s.cfg.footUp ∧ i.val ≤ s.anchorY.toNat + s.cfg.footDn then 0#16
        else s.active[i]) ∧
      t.preview[0] = s.cfg.previewShape[a.toNat].1 ∧ t.preview[1] = s.cfg.previewShape[a.toNat].2 ∧
      t = { s with
        active := t.active
        anchorX := s.cfg.spawnX
        anchorY := s.cfg.spawnY
        cur := s.nextPiece
        nextPiece := ⟨a.toNat, h⟩
        preview := t.preview
        cont := composeAndRespond ++ s.cont
        resp := none }

/-- `SPAWN r` where a shape row of the promoted piece overlaps terrain enters the Game Over sequence, after
the footprint clear, the anchor, the promotion and the draw (R237, R238). -/
def Obligations.BlockedSpawnEntersGameOver : Prop :=
  ∀ (s : State) (a : BitVec 8) (h : a.toNat < 7), s.halt = false →
    (s.cfg.shape[s.nextPiece].1 &&& s.terrain[shapeRow0 s.cfg] ≠ 0#16 ∨
      s.cfg.shape[s.nextPiece].2 &&& s.terrain[shapeRow1 s.cfg] ≠ 0#16) →
    ∃ t, exec (.spawn a) s = .next t ∧
      (∀ i : Fin 32, t.active[i] =
        if s.anchorY.toNat ≤ i.val + s.cfg.footUp ∧ i.val ≤ s.anchorY.toNat + s.cfg.footDn then 0#16
        else s.active[i]) ∧
      t = { s with
        active := t.active
        anchorX := s.cfg.spawnX
        anchorY := s.cfg.spawnY
        cur := s.nextPiece
        nextPiece := ⟨a.toNat, h⟩
        cont := gameOverMicros ++ s.cont
        resp := none }

/-- The Game Over sequence (R240), whatever the ticks. At its ten waits, in turn, all 32 rows of the frame are solid
and blank. At its end: terrain, active and preview zero, the score one less, the glyphs those of the new score, the
frame the glyph rows alone, `HALT = 1`, the response 0; the anchor and the pieces as the spawn left them; and at least
`10 * BLINK_TICKS` ticks have passed (R300). -/
def Obligations.GameOverEndState : Prop :=
  gameOverMicros.count .waitMs = 10 ∧
  ∀ (s t : State) (turns : List Turn),
    s.cont = gameOverMicros → s.port = [] → Turn.reset ∉ turns → runTurns turns s = .next t →
      (t.cont.head? = some .waitMs →
        ∀ i : Fin 32, t.frame[i] = if t.cont.count .waitMs % 2 = 0 then 0xFFFF#16 else 0x0000#16) ∧
      (t.cont = [] →
        (∀ i : Fin 32, t.terrain[i] = 0#16 ∧ t.active[i] = 0#16 ∧ t.frame[i] = glyphOverlay t i) ∧
        t.preview[0] = 0#16 ∧ t.preview[1] = 0#16 ∧
        t.score = (s.score + 2 ^ s.cfg.scoreW - 1) % 2 ^ s.cfg.scoreW ∧ t.glyph = t.drawGlyphs.glyph ∧
        t.halt = true ∧ t.resp = ranWith 0#32 ∧ t.anchorX = s.anchorX ∧ t.anchorY = s.anchorY ∧
        t.cur = s.cur ∧ t.nextPiece = s.nextPiece ∧ 10 * s.cfg.blinkTicks ≤ turns.count .tick)

/-- The Game Over sequence ends when ticks come (R240, R266), with a `BLINK_TICKS` that `MS_TICK` can reach (R9): if
`BLINK_TICKS` ticks fall before each move of the HOST agent, its micro-steps are performed in one move each. That they
are 382 is the model's: the decrement, the clears and the glyphs are one micro-step (log entry 7), the halt and the
response two (log entry 18). -/
def Obligations.GameOverEndsWhenTicksCome : Prop :=
  ∀ s : State, s.cont = gameOverMicros → s.cfg.blinkTicks < 2 ^ s.cfg.tickW →
    ∃ t, runTurns (List.replicate 382 (List.replicate s.cfg.blinkTicks Turn.tick ++ [Turn.host])).flatten s
        = .next t ∧ t.cont = [] ∧ t.halt = true

/-- A wait holds the HOST agent while `MS_TICK < BLINK_TICKS` and lets it go on once it is not (R240). -/
def Obligations.WaitHoldsTheHost : Prop :=
  ∀ (s : State) (later : List Micro), s.cont = .waitMs :: later →
    (s.msTick < s.cfg.blinkTicks → move .host s = .next s) ∧
    (s.cfg.blinkTicks ≤ s.msTick → move .host s = .next { s with cont := later })

/-! ## The scan-out -/

/-- The TICK event (R210 to R217): the counters, the complement of the scanned row and the one-hot select
word in the chain whatever it held, the latch, the advance; nothing else, and `HALT` is not read. In the serial order
taken the chain is `{w16, w32}` (R215). The clause on both orders turned round is the model's (log entry 3, DEDUCED: R8
makes the order a parameter, R62 gives no other): each word then stands in the chain bit-reversed. -/
def Obligations.TickEventEffect : Prop :=
  ∀ s : State, ∃ t, exec .tick s = .next t ∧
    (s.cfg.MostFirst → t.sr = ~~~s.frame[rowOf s.scan] ++ (0x80000000#32 >>> s.scan.toNat)) ∧
    (s.cfg.byteOrder = .leastFirst → s.cfg.bitOrder = .leastFirst →
      t.sr = (~~~s.frame[rowOf s.scan]).reverse ++ (0x80000000#32 >>> s.scan.toNat).reverse) ∧
    (∀ x : Chain, exec .tick { s with sr := x } = .next t) ∧
    t = { s with
      msTick := (s.msTick + 1) % 2 ^ s.cfg.tickW
      debTick := (s.debTick + 1) % 2 ^ s.cfg.debW
      sr := t.sr
      out := t.sr
      scan := BitVec.ofNat 5 ((s.scan.toNat + 1) % 32) }

/-- What the display shows after a TICK event that started with `SCAN = s`: exactly row s is selected, and its
LED c is lit exactly when `bit(frame[s], c) = 1` (R218, in the serial order taken). -/
def Obligations.TickShowsTheScannedRow : Prop :=
  ∀ s t : State, s.cfg.MostFirst → exec .tick s = .next t →
    (∀ r : Fin 32, rowSelected t.out r = decide (r = rowOf s.scan)) ∧
    ∀ (r : Fin 32) (c : Fin 16), ledLit t.out r c = (decide (r = rowOf s.scan) && s.frame[r].getLsbD c.val)

/-- A refresh (R219, R76): over 32 consecutive TICK events each row is selected exactly once, in cyclic order
from `SCAN`, the lit LEDs are exactly the set bits of `frame`, and `SCAN` is back (in the serial order taken). -/
def Obligations.RefreshShowsTheFrame : Prop :=
  ∀ s : State, s.cfg.MostFirst →
    (∀ n : Nat, n < 32 → ∃ t, runTurns (List.replicate (n + 1) Turn.tick) s = .next t ∧
      (∀ r : Fin 32, rowSelected t.out r = decide (r.val = (s.scan.toNat + n) % 32)) ∧
      ∀ (r : Fin 32) (c : Fin 16),
        ledLit t.out r c = (decide (r.val = (s.scan.toNat + n) % 32) && s.frame[r].getLsbD c.val)) ∧
    (∀ (r : Fin 32) (c : Fin 16),
      s.frame[r].getLsbD c.val = true ↔
        ∃ n t, n < 32 ∧ runTurns (List.replicate (n + 1) Turn.tick) s = .next t ∧ ledLit t.out r c = true) ∧
    ∃ t, runTurns (List.replicate 32 Turn.tick) s = .next t ∧ t.scan = s.scan

/-- `OUT` shows the row before `SCAN` from the first TICK event after a reset on: the event establishes it and
every step but a reset keeps it (R216, R217, in the serial order taken). -/
def Obligations.LatchedRowPrecedesScan : Prop :=
  (∀ s t : State, s.cfg.MostFirst → exec .tick s = .next t → ShowsLastRow t) ∧
  (∀ s t : State, s.cfg.MostFirst → ShowsLastRow s → (takeTurn s).1 ≠ .reset → step s = .next t → ShowsLastRow t)

/-! ## Ownership, the halted state, the continuation -/

/-- The ownership partition (R270): a move of the TICK agent writes no board or frame state and no HOST-owned
scalar, and only increments the counters; a move of the HOST agent writes neither `SCAN` nor `SR` nor `OUT`,
and a tick counter only with zero. No move changes the configuration. -/
def Obligations.OwnershipPartition : Prop :=
  (∀ s t : State, move .tick s = .next t →
    SameHostState s t ∧ t.cont = s.cont ∧ t.resp = s.resp ∧ t.cfg = s.cfg ∧
      t.msTick = (s.msTick + 1) % 2 ^ s.cfg.tickW ∧ t.debTick = (s.debTick + 1) % 2 ^ s.cfg.debW) ∧
  (∀ s t : State, move .host s = .next t →
    SameScanState s t ∧ t.cfg = s.cfg ∧
      (t.msTick = s.msTick ∨ t.msTick = 0) ∧ (t.debTick = s.debTick ∨ t.debTick = 0))

/-- `HALT` is cleared only by reset (R28), and in the halted state no board, frame or HOST-owned state ever
changes again, but by reset (R241). The premise on the continuation is the invariant stated next. -/
def Obligations.HaltedBoardIsFrozen : Prop :=
  ∀ s t : State, s.halt = true → (takeTurn s).1 ≠ .reset → step s = .next t →
    t.halt = true ∧ (ContinuationLegal s → SameHostState s t)

/-- Two invariants of every step: the HOST continuation is what a command of the table leaves to do, and with
`HALT = 1` at most the response (R34, R241; the continuation as data is the model's, log entry 7); and each counter
holds a value of its width (R15, R27, R32). -/
def Obligations.ContinuationStaysLegal : Prop :=
  ∀ s t : State, step s = .next t →
    (ContinuationLegal s → ContinuationLegal t) ∧ (CountersFit s → CountersFit t)

/-- The invariants hold at reset: the HOST agent is idle and the counters are zero (R40), and a reset machine with an
allowed configuration and a port of played words (the model's choice, log entry 21) is a played session. -/
def Obligations.InvariantsHoldAtReset : Prop :=
  ContinuationLegal State.reset ∧ CountersFit State.reset ∧
  ∀ (c : Config) (words : List CmdWord) (turns : List Turn) (n : Nat), c.wf = true → c.Decided →
    (∀ w ∈ words, playedWord w = true) →
      Playing (State.afterReset c words turns n) ∧ PieceAtAnchor (State.afterReset c words turns n)
end

