-- ==== Sys2Proof/Laws/Encoding.lean ====
section
/-! SUPPORT. The fields of a command word: composing a word and taking its fields apart again. -/

namespace Sys2Proof

@[simp] theorem ofCode_code (o : Opcode) : Opcode.ofCode o.code = some o := by cases o <;> rfl

theorem commandWord_getLsbD (a b : BitVec 8) (c : BitVec 16) (i : Nat) : (commandWord a b c).getLsbD i =
    if i < 16 then c.getLsbD i else if i - 16 < 8 then b.getLsbD (i - 16) else a.getLsbD (i - 16 - 8) := by
  show BitVec.getLsbD ((a ++ b ++ c : BitVec (8 + 8 + 16))) i = _
  rw [BitVec.getLsbD_append, BitVec.getLsbD_append]

@[simp] theorem opField_commandWord (a b : BitVec 8) (c : BitVec 16) : opField (commandWord a b c) = a := by
  apply BitVec.eq_of_getLsbD_eq
  intro i hi
  rw [opField, BitVec.getLsbD_extractLsb', commandWord_getLsbD]
  simp only [hi, decide_true, Bool.true_and]
  rw [if_neg (by omega), if_neg (by omega)]
  congr 1
  omega

@[simp] theorem aField_commandWord (a b : BitVec 8) (c : BitVec 16) : aField (commandWord a b c) = b := by
  apply BitVec.eq_of_getLsbD_eq
  intro i hi
  rw [aField, BitVec.getLsbD_extractLsb', commandWord_getLsbD]
  simp only [hi, decide_true, Bool.true_and]
  rw [if_neg (by omega), if_pos (by omega)]
  congr 1
  omega

@[simp] theorem dField_commandWord (a b : BitVec 8) (c : BitVec 16) : dField (commandWord a b c) = c := by
  apply BitVec.eq_of_getLsbD_eq
  intro i hi
  rw [dField, BitVec.getLsbD_extractLsb', commandWord_getLsbD]
  simp only [hi, decide_true, Bool.true_and]
  rw [if_pos (by omega)]
  congr 1
  omega

theorem nibbles_getLsbD (p k : BitVec 4) (i : Nat) : BitVec.getLsbD (w := 8) (p ++ k) i =
    if i < 4 then k.getLsbD i else p.getLsbD (i - 4) := by
  show BitVec.getLsbD ((p ++ k : BitVec (4 + 4))) i = _
  rw [BitVec.getLsbD_append]

theorem high_nibble (p k : BitVec 4) : BitVec.extractLsb' (n := 8) 4 4 (p ++ k) = p := by
  apply BitVec.eq_of_getLsbD_eq
  intro i hi
  rw [BitVec.getLsbD_extractLsb', nibbles_getLsbD]
  simp only [hi, decide_true, Bool.true_and]
  rw [if_neg (by omega)]
  congr 1
  omega

theorem low_nibble (p k : BitVec 4) : BitVec.extractLsb' (n := 8) 0 4 (p ++ k) = k := by
  apply BitVec.eq_of_getLsbD_eq
  intro i hi
  rw [BitVec.getLsbD_extractLsb', nibbles_getLsbD]
  simp only [hi, decide_true, Bool.true_and]
  rw [if_pos (by omega)]
  congr 1
  omega

theorem ofCode_some {b : BitVec 8} {o : Opcode} (h : Opcode.ofCode b = some o) : o.code = b := by
  have := List.find?_some h
  simpa using this

theorem commandWord_fields (w : CmdWord) : commandWord (opField w) (aField w) (dField w) = w := by
  apply BitVec.eq_of_getLsbD_eq
  intro i hi
  rw [commandWord_getLsbD]
  simp only [opField, aField, dField, BitVec.getLsbD_extractLsb']
  by_cases h1 : i < 16
  · simp [h1]
  · by_cases h2 : i - 16 < 8
    · simp [h1, h2, show 16 + (i - 16) = i by omega]
    · simp [h1, h2, show i - 16 - 8 < 8 by omega, show 24 + (i - 16 - 8) = i by omega]

theorem nibbles_of_byte (a : BitVec 8) : (a.extractLsb' 4 4 ++ a.extractLsb' 0 4 : BitVec 8) = a := by
  apply BitVec.eq_of_getLsbD_eq
  intro i hi
  rw [nibbles_getLsbD]
  simp only [BitVec.getLsbD_extractLsb']
  split
  · simp only [*, decide_true, Bool.true_and]
    rw [show 0 + i = i by omega]
  · have : i - 4 < 4 := by omega
    simp only [*, decide_true, Bool.true_and]
    rw [show 4 + (i - 4) = i by omega]

end Sys2Proof
end

