-- ==== Sys2Proof/Laws/State.lean ====
section
/-! SUPPORT. For every named update of the state, what each field is afterwards: one lemma per field, so that no
proof unfolds a record update. -/

namespace Sys2Proof.Machine

/-! `State.setTerrain` -/

@[simp] theorem State.setTerrain_cfg (s : State) (i : Fin 32) (v : Row) : (s.setTerrain i v).cfg = s.cfg := rfl
@[simp] theorem State.setTerrain_terrain (s : State) (i : Fin 32) (v : Row) :
    (s.setTerrain i v).terrain = s.terrain.set i v := rfl
@[simp] theorem State.setTerrain_active (s : State) (i : Fin 32) (v : Row) :
    (s.setTerrain i v).active = s.active := rfl
@[simp] theorem State.setTerrain_frame (s : State) (i : Fin 32) (v : Row) :
    (s.setTerrain i v).frame = s.frame := rfl
@[simp] theorem State.setTerrain_preview (s : State) (i : Fin 32) (v : Row) :
    (s.setTerrain i v).preview = s.preview := rfl
@[simp] theorem State.setTerrain_glyph (s : State) (i : Fin 32) (v : Row) :
    (s.setTerrain i v).glyph = s.glyph := rfl
@[simp] theorem State.setTerrain_anchorX (s : State) (i : Fin 32) (v : Row) :
    (s.setTerrain i v).anchorX = s.anchorX := rfl
@[simp] theorem State.setTerrain_anchorY (s : State) (i : Fin 32) (v : Row) :
    (s.setTerrain i v).anchorY = s.anchorY := rfl
@[simp] theorem State.setTerrain_cur (s : State) (i : Fin 32) (v : Row) : (s.setTerrain i v).cur = s.cur := rfl
@[simp] theorem State.setTerrain_nextPiece (s : State) (i : Fin 32) (v : Row) :
    (s.setTerrain i v).nextPiece = s.nextPiece := rfl
@[simp] theorem State.setTerrain_score (s : State) (i : Fin 32) (v : Row) :
    (s.setTerrain i v).score = s.score := rfl
@[simp] theorem State.setTerrain_halt (s : State) (i : Fin 32) (v : Row) : (s.setTerrain i v).halt = s.halt := rfl
@[simp] theorem State.setTerrain_scan (s : State) (i : Fin 32) (v : Row) : (s.setTerrain i v).scan = s.scan := rfl
@[simp] theorem State.setTerrain_msTick (s : State) (i : Fin 32) (v : Row) :
    (s.setTerrain i v).msTick = s.msTick := rfl
@[simp] theorem State.setTerrain_debTick (s : State) (i : Fin 32) (v : Row) :
    (s.setTerrain i v).debTick = s.debTick := rfl
@[simp] theorem State.setTerrain_sr (s : State) (i : Fin 32) (v : Row) : (s.setTerrain i v).sr = s.sr := rfl
@[simp] theorem State.setTerrain_out (s : State) (i : Fin 32) (v : Row) : (s.setTerrain i v).out = s.out := rfl
@[simp] theorem State.setTerrain_cont (s : State) (i : Fin 32) (v : Row) : (s.setTerrain i v).cont = s.cont := rfl
@[simp] theorem State.setTerrain_resp (s : State) (i : Fin 32) (v : Row) : (s.setTerrain i v).resp = s.resp := rfl
@[simp] theorem State.setTerrain_port (s : State) (i : Fin 32) (v : Row) : (s.setTerrain i v).port = s.port := rfl
@[simp] theorem State.setTerrain_sched (s : State) (i : Fin 32) (v : Row) :
    (s.setTerrain i v).sched = s.sched := rfl
@[simp] theorem State.setTerrain_draws (s : State) (i : Fin 32) (v : Row) :
    (s.setTerrain i v).draws = s.draws := rfl

/-! `State.setActive` -/

@[simp] theorem State.setActive_cfg (s : State) (i : Fin 32) (v : Row) : (s.setActive i v).cfg = s.cfg := rfl
@[simp] theorem State.setActive_terrain (s : State) (i : Fin 32) (v : Row) :
    (s.setActive i v).terrain = s.terrain := rfl
@[simp] theorem State.setActive_active (s : State) (i : Fin 32) (v : Row) :
    (s.setActive i v).active = s.active.set i v := rfl
@[simp] theorem State.setActive_frame (s : State) (i : Fin 32) (v : Row) : (s.setActive i v).frame = s.frame := rfl
@[simp] theorem State.setActive_preview (s : State) (i : Fin 32) (v : Row) :
    (s.setActive i v).preview = s.preview := rfl
@[simp] theorem State.setActive_glyph (s : State) (i : Fin 32) (v : Row) : (s.setActive i v).glyph = s.glyph := rfl
@[simp] theorem State.setActive_anchorX (s : State) (i : Fin 32) (v : Row) :
    (s.setActive i v).anchorX = s.anchorX := rfl
@[simp] theorem State.setActive_anchorY (s : State) (i : Fin 32) (v : Row) :
    (s.setActive i v).anchorY = s.anchorY := rfl
@[simp] theorem State.setActive_cur (s : State) (i : Fin 32) (v : Row) : (s.setActive i v).cur = s.cur := rfl
@[simp] theorem State.setActive_nextPiece (s : State) (i : Fin 32) (v : Row) :
    (s.setActive i v).nextPiece = s.nextPiece := rfl
@[simp] theorem State.setActive_score (s : State) (i : Fin 32) (v : Row) : (s.setActive i v).score = s.score := rfl
@[simp] theorem State.setActive_halt (s : State) (i : Fin 32) (v : Row) : (s.setActive i v).halt = s.halt := rfl
@[simp] theorem State.setActive_scan (s : State) (i : Fin 32) (v : Row) : (s.setActive i v).scan = s.scan := rfl
@[simp] theorem State.setActive_msTick (s : State) (i : Fin 32) (v : Row) :
    (s.setActive i v).msTick = s.msTick := rfl
@[simp] theorem State.setActive_debTick (s : State) (i : Fin 32) (v : Row) :
    (s.setActive i v).debTick = s.debTick := rfl
@[simp] theorem State.setActive_sr (s : State) (i : Fin 32) (v : Row) : (s.setActive i v).sr = s.sr := rfl
@[simp] theorem State.setActive_out (s : State) (i : Fin 32) (v : Row) : (s.setActive i v).out = s.out := rfl
@[simp] theorem State.setActive_cont (s : State) (i : Fin 32) (v : Row) : (s.setActive i v).cont = s.cont := rfl
@[simp] theorem State.setActive_resp (s : State) (i : Fin 32) (v : Row) : (s.setActive i v).resp = s.resp := rfl
@[simp] theorem State.setActive_port (s : State) (i : Fin 32) (v : Row) : (s.setActive i v).port = s.port := rfl
@[simp] theorem State.setActive_sched (s : State) (i : Fin 32) (v : Row) : (s.setActive i v).sched = s.sched := rfl
@[simp] theorem State.setActive_draws (s : State) (i : Fin 32) (v : Row) : (s.setActive i v).draws = s.draws := rfl

/-! `State.setFrame` -/

@[simp] theorem State.setFrame_cfg (s : State) (i : Fin 32) (v : Row) : (s.setFrame i v).cfg = s.cfg := rfl
@[simp] theorem State.setFrame_terrain (s : State) (i : Fin 32) (v : Row) :
    (s.setFrame i v).terrain = s.terrain := rfl
@[simp] theorem State.setFrame_active (s : State) (i : Fin 32) (v : Row) :
    (s.setFrame i v).active = s.active := rfl
@[simp] theorem State.setFrame_frame (s : State) (i : Fin 32) (v : Row) :
    (s.setFrame i v).frame = s.frame.set i v := rfl
@[simp] theorem State.setFrame_preview (s : State) (i : Fin 32) (v : Row) :
    (s.setFrame i v).preview = s.preview := rfl
@[simp] theorem State.setFrame_glyph (s : State) (i : Fin 32) (v : Row) : (s.setFrame i v).glyph = s.glyph := rfl
@[simp] theorem State.setFrame_anchorX (s : State) (i : Fin 32) (v : Row) :
    (s.setFrame i v).anchorX = s.anchorX := rfl
@[simp] theorem State.setFrame_anchorY (s : State) (i : Fin 32) (v : Row) :
    (s.setFrame i v).anchorY = s.anchorY := rfl
@[simp] theorem State.setFrame_cur (s : State) (i : Fin 32) (v : Row) : (s.setFrame i v).cur = s.cur := rfl
@[simp] theorem State.setFrame_nextPiece (s : State) (i : Fin 32) (v : Row) :
    (s.setFrame i v).nextPiece = s.nextPiece := rfl
@[simp] theorem State.setFrame_score (s : State) (i : Fin 32) (v : Row) : (s.setFrame i v).score = s.score := rfl
@[simp] theorem State.setFrame_halt (s : State) (i : Fin 32) (v : Row) : (s.setFrame i v).halt = s.halt := rfl
@[simp] theorem State.setFrame_scan (s : State) (i : Fin 32) (v : Row) : (s.setFrame i v).scan = s.scan := rfl
@[simp] theorem State.setFrame_msTick (s : State) (i : Fin 32) (v : Row) :
    (s.setFrame i v).msTick = s.msTick := rfl
@[simp] theorem State.setFrame_debTick (s : State) (i : Fin 32) (v : Row) :
    (s.setFrame i v).debTick = s.debTick := rfl
@[simp] theorem State.setFrame_sr (s : State) (i : Fin 32) (v : Row) : (s.setFrame i v).sr = s.sr := rfl
@[simp] theorem State.setFrame_out (s : State) (i : Fin 32) (v : Row) : (s.setFrame i v).out = s.out := rfl
@[simp] theorem State.setFrame_cont (s : State) (i : Fin 32) (v : Row) : (s.setFrame i v).cont = s.cont := rfl
@[simp] theorem State.setFrame_resp (s : State) (i : Fin 32) (v : Row) : (s.setFrame i v).resp = s.resp := rfl
@[simp] theorem State.setFrame_port (s : State) (i : Fin 32) (v : Row) : (s.setFrame i v).port = s.port := rfl
@[simp] theorem State.setFrame_sched (s : State) (i : Fin 32) (v : Row) : (s.setFrame i v).sched = s.sched := rfl
@[simp] theorem State.setFrame_draws (s : State) (i : Fin 32) (v : Row) : (s.setFrame i v).draws = s.draws := rfl

/-! `State.setPreview` -/

@[simp] theorem State.setPreview_cfg (s : State) (k : Fin 2) (v : Row) : (s.setPreview k v).cfg = s.cfg := rfl
@[simp] theorem State.setPreview_terrain (s : State) (k : Fin 2) (v : Row) :
    (s.setPreview k v).terrain = s.terrain := rfl
@[simp] theorem State.setPreview_active (s : State) (k : Fin 2) (v : Row) :
    (s.setPreview k v).active = s.active := rfl
@[simp] theorem State.setPreview_frame (s : State) (k : Fin 2) (v : Row) :
    (s.setPreview k v).frame = s.frame := rfl
@[simp] theorem State.setPreview_preview (s : State) (k : Fin 2) (v : Row) :
    (s.setPreview k v).preview = s.preview.set k v := rfl
@[simp] theorem State.setPreview_glyph (s : State) (k : Fin 2) (v : Row) :
    (s.setPreview k v).glyph = s.glyph := rfl
@[simp] theorem State.setPreview_anchorX (s : State) (k : Fin 2) (v : Row) :
    (s.setPreview k v).anchorX = s.anchorX := rfl
@[simp] theorem State.setPreview_anchorY (s : State) (k : Fin 2) (v : Row) :
    (s.setPreview k v).anchorY = s.anchorY := rfl
@[simp] theorem State.setPreview_cur (s : State) (k : Fin 2) (v : Row) : (s.setPreview k v).cur = s.cur := rfl
@[simp] theorem State.setPreview_nextPiece (s : State) (k : Fin 2) (v : Row) :
    (s.setPreview k v).nextPiece = s.nextPiece := rfl
@[simp] theorem State.setPreview_score (s : State) (k : Fin 2) (v : Row) :
    (s.setPreview k v).score = s.score := rfl
@[simp] theorem State.setPreview_halt (s : State) (k : Fin 2) (v : Row) : (s.setPreview k v).halt = s.halt := rfl
@[simp] theorem State.setPreview_scan (s : State) (k : Fin 2) (v : Row) : (s.setPreview k v).scan = s.scan := rfl
@[simp] theorem State.setPreview_msTick (s : State) (k : Fin 2) (v : Row) :
    (s.setPreview k v).msTick = s.msTick := rfl
@[simp] theorem State.setPreview_debTick (s : State) (k : Fin 2) (v : Row) :
    (s.setPreview k v).debTick = s.debTick := rfl
@[simp] theorem State.setPreview_sr (s : State) (k : Fin 2) (v : Row) : (s.setPreview k v).sr = s.sr := rfl
@[simp] theorem State.setPreview_out (s : State) (k : Fin 2) (v : Row) : (s.setPreview k v).out = s.out := rfl
@[simp] theorem State.setPreview_cont (s : State) (k : Fin 2) (v : Row) : (s.setPreview k v).cont = s.cont := rfl
@[simp] theorem State.setPreview_resp (s : State) (k : Fin 2) (v : Row) : (s.setPreview k v).resp = s.resp := rfl
@[simp] theorem State.setPreview_port (s : State) (k : Fin 2) (v : Row) : (s.setPreview k v).port = s.port := rfl
@[simp] theorem State.setPreview_sched (s : State) (k : Fin 2) (v : Row) :
    (s.setPreview k v).sched = s.sched := rfl
@[simp] theorem State.setPreview_draws (s : State) (k : Fin 2) (v : Row) :
    (s.setPreview k v).draws = s.draws := rfl

/-! `State.setGlyph` -/

@[simp] theorem State.setGlyph_cfg (s : State) (p : Fin 3) (k : Fin 5) (v : Row) :
    (s.setGlyph p k v).cfg = s.cfg := rfl
@[simp] theorem State.setGlyph_terrain (s : State) (p : Fin 3) (k : Fin 5) (v : Row) :
    (s.setGlyph p k v).terrain = s.terrain := rfl
@[simp] theorem State.setGlyph_active (s : State) (p : Fin 3) (k : Fin 5) (v : Row) :
    (s.setGlyph p k v).active = s.active := rfl
@[simp] theorem State.setGlyph_frame (s : State) (p : Fin 3) (k : Fin 5) (v : Row) :
    (s.setGlyph p k v).frame = s.frame := rfl
@[simp] theorem State.setGlyph_preview (s : State) (p : Fin 3) (k : Fin 5) (v : Row) :
    (s.setGlyph p k v).preview = s.preview := rfl
@[simp] theorem State.setGlyph_glyph (s : State) (p : Fin 3) (k : Fin 5) (v : Row) :
    (s.setGlyph p k v).glyph = s.glyph.set p (s.glyph[p].set k v) := rfl
@[simp] theorem State.setGlyph_anchorX (s : State) (p : Fin 3) (k : Fin 5) (v : Row) :
    (s.setGlyph p k v).anchorX = s.anchorX := rfl
@[simp] theorem State.setGlyph_anchorY (s : State) (p : Fin 3) (k : Fin 5) (v : Row) :
    (s.setGlyph p k v).anchorY = s.anchorY := rfl
@[simp] theorem State.setGlyph_cur (s : State) (p : Fin 3) (k : Fin 5) (v : Row) :
    (s.setGlyph p k v).cur = s.cur := rfl
@[simp] theorem State.setGlyph_nextPiece (s : State) (p : Fin 3) (k : Fin 5) (v : Row) :
    (s.setGlyph p k v).nextPiece = s.nextPiece := rfl
@[simp] theorem State.setGlyph_score (s : State) (p : Fin 3) (k : Fin 5) (v : Row) :
    (s.setGlyph p k v).score = s.score := rfl
@[simp] theorem State.setGlyph_halt (s : State) (p : Fin 3) (k : Fin 5) (v : Row) :
    (s.setGlyph p k v).halt = s.halt := rfl
@[simp] theorem State.setGlyph_scan (s : State) (p : Fin 3) (k : Fin 5) (v : Row) :
    (s.setGlyph p k v).scan = s.scan := rfl
@[simp] theorem State.setGlyph_msTick (s : State) (p : Fin 3) (k : Fin 5) (v : Row) :
    (s.setGlyph p k v).msTick = s.msTick := rfl
@[simp] theorem State.setGlyph_debTick (s : State) (p : Fin 3) (k : Fin 5) (v : Row) :
    (s.setGlyph p k v).debTick = s.debTick := rfl
@[simp] theorem State.setGlyph_sr (s : State) (p : Fin 3) (k : Fin 5) (v : Row) :
    (s.setGlyph p k v).sr = s.sr := rfl
@[simp] theorem State.setGlyph_out (s : State) (p : Fin 3) (k : Fin 5) (v : Row) :
    (s.setGlyph p k v).out = s.out := rfl
@[simp] theorem State.setGlyph_cont (s : State) (p : Fin 3) (k : Fin 5) (v : Row) :
    (s.setGlyph p k v).cont = s.cont := rfl
@[simp] theorem State.setGlyph_resp (s : State) (p : Fin 3) (k : Fin 5) (v : Row) :
    (s.setGlyph p k v).resp = s.resp := rfl
@[simp] theorem State.setGlyph_port (s : State) (p : Fin 3) (k : Fin 5) (v : Row) :
    (s.setGlyph p k v).port = s.port := rfl
@[simp] theorem State.setGlyph_sched (s : State) (p : Fin 3) (k : Fin 5) (v : Row) :
    (s.setGlyph p k v).sched = s.sched := rfl
@[simp] theorem State.setGlyph_draws (s : State) (p : Fin 3) (k : Fin 5) (v : Row) :
    (s.setGlyph p k v).draws = s.draws := rfl

/-! `State.respond` -/

@[simp] theorem State.respond_cfg (s : State) (v : RespWord) : (s.respond v).cfg = s.cfg := rfl
@[simp] theorem State.respond_terrain (s : State) (v : RespWord) : (s.respond v).terrain = s.terrain := rfl
@[simp] theorem State.respond_active (s : State) (v : RespWord) : (s.respond v).active = s.active := rfl
@[simp] theorem State.respond_frame (s : State) (v : RespWord) : (s.respond v).frame = s.frame := rfl
@[simp] theorem State.respond_preview (s : State) (v : RespWord) : (s.respond v).preview = s.preview := rfl
@[simp] theorem State.respond_glyph (s : State) (v : RespWord) : (s.respond v).glyph = s.glyph := rfl
@[simp] theorem State.respond_anchorX (s : State) (v : RespWord) : (s.respond v).anchorX = s.anchorX := rfl
@[simp] theorem State.respond_anchorY (s : State) (v : RespWord) : (s.respond v).anchorY = s.anchorY := rfl
@[simp] theorem State.respond_cur (s : State) (v : RespWord) : (s.respond v).cur = s.cur := rfl
@[simp] theorem State.respond_nextPiece (s : State) (v : RespWord) : (s.respond v).nextPiece = s.nextPiece := rfl
@[simp] theorem State.respond_score (s : State) (v : RespWord) : (s.respond v).score = s.score := rfl
@[simp] theorem State.respond_halt (s : State) (v : RespWord) : (s.respond v).halt = s.halt := rfl
@[simp] theorem State.respond_scan (s : State) (v : RespWord) : (s.respond v).scan = s.scan := rfl
@[simp] theorem State.respond_msTick (s : State) (v : RespWord) : (s.respond v).msTick = s.msTick := rfl
@[simp] theorem State.respond_debTick (s : State) (v : RespWord) : (s.respond v).debTick = s.debTick := rfl
@[simp] theorem State.respond_sr (s : State) (v : RespWord) : (s.respond v).sr = s.sr := rfl
@[simp] theorem State.respond_out (s : State) (v : RespWord) : (s.respond v).out = s.out := rfl
@[simp] theorem State.respond_cont (s : State) (v : RespWord) : (s.respond v).cont = s.cont := rfl
@[simp] theorem State.respond_resp (s : State) (v : RespWord) : (s.respond v).resp = some ⟨false, v⟩ := rfl
@[simp] theorem State.respond_port (s : State) (v : RespWord) : (s.respond v).port = s.port := rfl
@[simp] theorem State.respond_sched (s : State) (v : RespWord) : (s.respond v).sched = s.sched := rfl
@[simp] theorem State.respond_draws (s : State) (v : RespWord) : (s.respond v).draws = s.draws := rfl

/-! `State.refuse` -/

@[simp] theorem State.refuse_cfg (s : State) (c : RefusalCode) : (s.refuse c).cfg = s.cfg := rfl
@[simp] theorem State.refuse_terrain (s : State) (c : RefusalCode) : (s.refuse c).terrain = s.terrain := rfl
@[simp] theorem State.refuse_active (s : State) (c : RefusalCode) : (s.refuse c).active = s.active := rfl
@[simp] theorem State.refuse_frame (s : State) (c : RefusalCode) : (s.refuse c).frame = s.frame := rfl
@[simp] theorem State.refuse_preview (s : State) (c : RefusalCode) : (s.refuse c).preview = s.preview := rfl
@[simp] theorem State.refuse_glyph (s : State) (c : RefusalCode) : (s.refuse c).glyph = s.glyph := rfl
@[simp] theorem State.refuse_anchorX (s : State) (c : RefusalCode) : (s.refuse c).anchorX = s.anchorX := rfl
@[simp] theorem State.refuse_anchorY (s : State) (c : RefusalCode) : (s.refuse c).anchorY = s.anchorY := rfl
@[simp] theorem State.refuse_cur (s : State) (c : RefusalCode) : (s.refuse c).cur = s.cur := rfl
@[simp] theorem State.refuse_nextPiece (s : State) (c : RefusalCode) : (s.refuse c).nextPiece = s.nextPiece := rfl
@[simp] theorem State.refuse_score (s : State) (c : RefusalCode) : (s.refuse c).score = s.score := rfl
@[simp] theorem State.refuse_halt (s : State) (c : RefusalCode) : (s.refuse c).halt = s.halt := rfl
@[simp] theorem State.refuse_scan (s : State) (c : RefusalCode) : (s.refuse c).scan = s.scan := rfl
@[simp] theorem State.refuse_msTick (s : State) (c : RefusalCode) : (s.refuse c).msTick = s.msTick := rfl
@[simp] theorem State.refuse_debTick (s : State) (c : RefusalCode) : (s.refuse c).debTick = s.debTick := rfl
@[simp] theorem State.refuse_sr (s : State) (c : RefusalCode) : (s.refuse c).sr = s.sr := rfl
@[simp] theorem State.refuse_out (s : State) (c : RefusalCode) : (s.refuse c).out = s.out := rfl
@[simp] theorem State.refuse_cont (s : State) (c : RefusalCode) : (s.refuse c).cont = s.cont := rfl
@[simp] theorem State.refuse_resp (s : State) (c : RefusalCode) : (s.refuse c).resp = some ⟨true, c.number⟩ := rfl
@[simp] theorem State.refuse_port (s : State) (c : RefusalCode) : (s.refuse c).port = s.port := rfl
@[simp] theorem State.refuse_sched (s : State) (c : RefusalCode) : (s.refuse c).sched = s.sched := rfl
@[simp] theorem State.refuse_draws (s : State) (c : RefusalCode) : (s.refuse c).draws = s.draws := rfl

/-! `State.issue` -/

@[simp] theorem State.issue_cfg (s : State) (ms : List Micro) : (s.issue ms).cfg = s.cfg := rfl
@[simp] theorem State.issue_terrain (s : State) (ms : List Micro) : (s.issue ms).terrain = s.terrain := rfl
@[simp] theorem State.issue_active (s : State) (ms : List Micro) : (s.issue ms).active = s.active := rfl
@[simp] theorem State.issue_frame (s : State) (ms : List Micro) : (s.issue ms).frame = s.frame := rfl
@[simp] theorem State.issue_preview (s : State) (ms : List Micro) : (s.issue ms).preview = s.preview := rfl
@[simp] theorem State.issue_glyph (s : State) (ms : List Micro) : (s.issue ms).glyph = s.glyph := rfl
@[simp] theorem State.issue_anchorX (s : State) (ms : List Micro) : (s.issue ms).anchorX = s.anchorX := rfl
@[simp] theorem State.issue_anchorY (s : State) (ms : List Micro) : (s.issue ms).anchorY = s.anchorY := rfl
@[simp] theorem State.issue_cur (s : State) (ms : List Micro) : (s.issue ms).cur = s.cur := rfl
@[simp] theorem State.issue_nextPiece (s : State) (ms : List Micro) : (s.issue ms).nextPiece = s.nextPiece := rfl
@[simp] theorem State.issue_score (s : State) (ms : List Micro) : (s.issue ms).score = s.score := rfl
@[simp] theorem State.issue_halt (s : State) (ms : List Micro) : (s.issue ms).halt = s.halt := rfl
@[simp] theorem State.issue_scan (s : State) (ms : List Micro) : (s.issue ms).scan = s.scan := rfl
@[simp] theorem State.issue_msTick (s : State) (ms : List Micro) : (s.issue ms).msTick = s.msTick := rfl
@[simp] theorem State.issue_debTick (s : State) (ms : List Micro) : (s.issue ms).debTick = s.debTick := rfl
@[simp] theorem State.issue_sr (s : State) (ms : List Micro) : (s.issue ms).sr = s.sr := rfl
@[simp] theorem State.issue_out (s : State) (ms : List Micro) : (s.issue ms).out = s.out := rfl
@[simp] theorem State.issue_cont (s : State) (ms : List Micro) : (s.issue ms).cont = ms ++ s.cont := rfl
@[simp] theorem State.issue_resp (s : State) (ms : List Micro) : (s.issue ms).resp = none := rfl
@[simp] theorem State.issue_port (s : State) (ms : List Micro) : (s.issue ms).port = s.port := rfl
@[simp] theorem State.issue_sched (s : State) (ms : List Micro) : (s.issue ms).sched = s.sched := rfl
@[simp] theorem State.issue_draws (s : State) (ms : List Micro) : (s.issue ms).draws = s.draws := rfl

/-! `State.drawGlyphs` -/

@[simp] theorem State.drawGlyphs_cfg (s : State) : (s.drawGlyphs).cfg = s.cfg := rfl
@[simp] theorem State.drawGlyphs_terrain (s : State) : (s.drawGlyphs).terrain = s.terrain := rfl
@[simp] theorem State.drawGlyphs_active (s : State) : (s.drawGlyphs).active = s.active := rfl
@[simp] theorem State.drawGlyphs_frame (s : State) : (s.drawGlyphs).frame = s.frame := rfl
@[simp] theorem State.drawGlyphs_preview (s : State) : (s.drawGlyphs).preview = s.preview := rfl
@[simp] theorem State.drawGlyphs_anchorX (s : State) : (s.drawGlyphs).anchorX = s.anchorX := rfl
@[simp] theorem State.drawGlyphs_anchorY (s : State) : (s.drawGlyphs).anchorY = s.anchorY := rfl
@[simp] theorem State.drawGlyphs_cur (s : State) : (s.drawGlyphs).cur = s.cur := rfl
@[simp] theorem State.drawGlyphs_nextPiece (s : State) : (s.drawGlyphs).nextPiece = s.nextPiece := rfl
@[simp] theorem State.drawGlyphs_score (s : State) : (s.drawGlyphs).score = s.score := rfl
@[simp] theorem State.drawGlyphs_halt (s : State) : (s.drawGlyphs).halt = s.halt := rfl
@[simp] theorem State.drawGlyphs_scan (s : State) : (s.drawGlyphs).scan = s.scan := rfl
@[simp] theorem State.drawGlyphs_msTick (s : State) : (s.drawGlyphs).msTick = s.msTick := rfl
@[simp] theorem State.drawGlyphs_debTick (s : State) : (s.drawGlyphs).debTick = s.debTick := rfl
@[simp] theorem State.drawGlyphs_sr (s : State) : (s.drawGlyphs).sr = s.sr := rfl
@[simp] theorem State.drawGlyphs_out (s : State) : (s.drawGlyphs).out = s.out := rfl
@[simp] theorem State.drawGlyphs_cont (s : State) : (s.drawGlyphs).cont = s.cont := rfl
@[simp] theorem State.drawGlyphs_resp (s : State) : (s.drawGlyphs).resp = s.resp := rfl
@[simp] theorem State.drawGlyphs_port (s : State) : (s.drawGlyphs).port = s.port := rfl
@[simp] theorem State.drawGlyphs_sched (s : State) : (s.drawGlyphs).sched = s.sched := rfl
@[simp] theorem State.drawGlyphs_draws (s : State) : (s.drawGlyphs).draws = s.draws := rfl

/-! `State.drawPreview` -/

@[simp] theorem State.drawPreview_cfg (s : State) : (s.drawPreview).cfg = s.cfg := rfl
@[simp] theorem State.drawPreview_terrain (s : State) : (s.drawPreview).terrain = s.terrain := rfl
@[simp] theorem State.drawPreview_active (s : State) : (s.drawPreview).active = s.active := rfl
@[simp] theorem State.drawPreview_frame (s : State) : (s.drawPreview).frame = s.frame := rfl
@[simp] theorem State.drawPreview_glyph (s : State) : (s.drawPreview).glyph = s.glyph := rfl
@[simp] theorem State.drawPreview_anchorX (s : State) : (s.drawPreview).anchorX = s.anchorX := rfl
@[simp] theorem State.drawPreview_anchorY (s : State) : (s.drawPreview).anchorY = s.anchorY := rfl
@[simp] theorem State.drawPreview_cur (s : State) : (s.drawPreview).cur = s.cur := rfl
@[simp] theorem State.drawPreview_nextPiece (s : State) : (s.drawPreview).nextPiece = s.nextPiece := rfl
@[simp] theorem State.drawPreview_score (s : State) : (s.drawPreview).score = s.score := rfl
@[simp] theorem State.drawPreview_halt (s : State) : (s.drawPreview).halt = s.halt := rfl
@[simp] theorem State.drawPreview_scan (s : State) : (s.drawPreview).scan = s.scan := rfl
@[simp] theorem State.drawPreview_msTick (s : State) : (s.drawPreview).msTick = s.msTick := rfl
@[simp] theorem State.drawPreview_debTick (s : State) : (s.drawPreview).debTick = s.debTick := rfl
@[simp] theorem State.drawPreview_sr (s : State) : (s.drawPreview).sr = s.sr := rfl
@[simp] theorem State.drawPreview_out (s : State) : (s.drawPreview).out = s.out := rfl
@[simp] theorem State.drawPreview_cont (s : State) : (s.drawPreview).cont = s.cont := rfl
@[simp] theorem State.drawPreview_resp (s : State) : (s.drawPreview).resp = s.resp := rfl
@[simp] theorem State.drawPreview_port (s : State) : (s.drawPreview).port = s.port := rfl
@[simp] theorem State.drawPreview_sched (s : State) : (s.drawPreview).sched = s.sched := rfl
@[simp] theorem State.drawPreview_draws (s : State) : (s.drawPreview).draws = s.draws := rfl

/-! `State.clearSession` -/

@[simp] theorem State.clearSession_cfg (s : State) : (s.clearSession).cfg = s.cfg := rfl
@[simp] theorem State.clearSession_terrain (s : State) : (s.clearSession).terrain = Vector.replicate 32 0#16 := rfl
@[simp] theorem State.clearSession_active (s : State) : (s.clearSession).active = Vector.replicate 32 0#16 := rfl
@[simp] theorem State.clearSession_frame (s : State) : (s.clearSession).frame = s.frame := rfl
@[simp] theorem State.clearSession_preview (s : State) : (s.clearSession).preview = Vector.replicate 2 0#16 := rfl
@[simp] theorem State.clearSession_anchorX (s : State) : (s.clearSession).anchorX = s.anchorX := rfl
@[simp] theorem State.clearSession_anchorY (s : State) : (s.clearSession).anchorY = s.anchorY := rfl
@[simp] theorem State.clearSession_cur (s : State) : (s.clearSession).cur = s.cur := rfl
@[simp] theorem State.clearSession_nextPiece (s : State) : (s.clearSession).nextPiece = s.nextPiece := rfl
@[simp] theorem State.clearSession_score (s : State) :
    (s.clearSession).score = countDown s.cfg.scoreW s.score := rfl
@[simp] theorem State.clearSession_halt (s : State) : (s.clearSession).halt = s.halt := rfl
@[simp] theorem State.clearSession_scan (s : State) : (s.clearSession).scan = s.scan := rfl
@[simp] theorem State.clearSession_msTick (s : State) : (s.clearSession).msTick = s.msTick := rfl
@[simp] theorem State.clearSession_debTick (s : State) : (s.clearSession).debTick = s.debTick := rfl
@[simp] theorem State.clearSession_sr (s : State) : (s.clearSession).sr = s.sr := rfl
@[simp] theorem State.clearSession_out (s : State) : (s.clearSession).out = s.out := rfl
@[simp] theorem State.clearSession_cont (s : State) : (s.clearSession).cont = s.cont := rfl
@[simp] theorem State.clearSession_resp (s : State) : (s.clearSession).resp = s.resp := rfl
@[simp] theorem State.clearSession_port (s : State) : (s.clearSession).port = s.port := rfl
@[simp] theorem State.clearSession_sched (s : State) : (s.clearSession).sched = s.sched := rfl
@[simp] theorem State.clearSession_draws (s : State) : (s.clearSession).draws = s.draws := rfl

/-! `lockPiece` -/

@[simp] theorem lockPiece_cfg (s : State) : (lockPiece s).cfg = s.cfg := rfl
@[simp] theorem lockPiece_active (s : State) : (lockPiece s).active = s.active := rfl
@[simp] theorem lockPiece_frame (s : State) : (lockPiece s).frame = s.frame := rfl
@[simp] theorem lockPiece_preview (s : State) : (lockPiece s).preview = s.preview := rfl
@[simp] theorem lockPiece_glyph (s : State) : (lockPiece s).glyph = s.glyph := rfl
@[simp] theorem lockPiece_anchorX (s : State) : (lockPiece s).anchorX = s.anchorX := rfl
@[simp] theorem lockPiece_anchorY (s : State) : (lockPiece s).anchorY = s.anchorY := rfl
@[simp] theorem lockPiece_cur (s : State) : (lockPiece s).cur = s.cur := rfl
@[simp] theorem lockPiece_nextPiece (s : State) : (lockPiece s).nextPiece = s.nextPiece := rfl
@[simp] theorem lockPiece_score (s : State) : (lockPiece s).score = s.score := rfl
@[simp] theorem lockPiece_halt (s : State) : (lockPiece s).halt = s.halt := rfl
@[simp] theorem lockPiece_scan (s : State) : (lockPiece s).scan = s.scan := rfl
@[simp] theorem lockPiece_msTick (s : State) : (lockPiece s).msTick = s.msTick := rfl
@[simp] theorem lockPiece_debTick (s : State) : (lockPiece s).debTick = s.debTick := rfl
@[simp] theorem lockPiece_sr (s : State) : (lockPiece s).sr = s.sr := rfl
@[simp] theorem lockPiece_out (s : State) : (lockPiece s).out = s.out := rfl
@[simp] theorem lockPiece_cont (s : State) : (lockPiece s).cont = s.cont := rfl
@[simp] theorem lockPiece_resp (s : State) : (lockPiece s).resp = s.resp := rfl
@[simp] theorem lockPiece_port (s : State) : (lockPiece s).port = s.port := rfl
@[simp] theorem lockPiece_sched (s : State) : (lockPiece s).sched = s.sched := rfl
@[simp] theorem lockPiece_draws (s : State) : (lockPiece s).draws = s.draws := rfl

/-! `clearLine` -/

@[simp] theorem clearLine_cfg (r : Fin 32) (s : State) : (clearLine r s).cfg = s.cfg := rfl
@[simp] theorem clearLine_terrain (r : Fin 32) (s : State) :
    (clearLine r s).terrain = compact s.cfg r.val s.terrain := rfl
@[simp] theorem clearLine_active (r : Fin 32) (s : State) : (clearLine r s).active = s.active := rfl
@[simp] theorem clearLine_frame (r : Fin 32) (s : State) : (clearLine r s).frame = s.frame := rfl
@[simp] theorem clearLine_preview (r : Fin 32) (s : State) : (clearLine r s).preview = s.preview := rfl
@[simp] theorem clearLine_anchorX (r : Fin 32) (s : State) : (clearLine r s).anchorX = s.anchorX := rfl
@[simp] theorem clearLine_anchorY (r : Fin 32) (s : State) : (clearLine r s).anchorY = s.anchorY := rfl
@[simp] theorem clearLine_cur (r : Fin 32) (s : State) : (clearLine r s).cur = s.cur := rfl
@[simp] theorem clearLine_nextPiece (r : Fin 32) (s : State) : (clearLine r s).nextPiece = s.nextPiece := rfl
@[simp] theorem clearLine_score (r : Fin 32) (s : State) :
    (clearLine r s).score = countUp s.cfg.scoreW s.score := rfl
@[simp] theorem clearLine_halt (r : Fin 32) (s : State) : (clearLine r s).halt = s.halt := rfl
@[simp] theorem clearLine_scan (r : Fin 32) (s : State) : (clearLine r s).scan = s.scan := rfl
@[simp] theorem clearLine_msTick (r : Fin 32) (s : State) : (clearLine r s).msTick = s.msTick := rfl
@[simp] theorem clearLine_debTick (r : Fin 32) (s : State) : (clearLine r s).debTick = s.debTick := rfl
@[simp] theorem clearLine_sr (r : Fin 32) (s : State) : (clearLine r s).sr = s.sr := rfl
@[simp] theorem clearLine_out (r : Fin 32) (s : State) : (clearLine r s).out = s.out := rfl
@[simp] theorem clearLine_cont (r : Fin 32) (s : State) : (clearLine r s).cont = s.cont := rfl
@[simp] theorem clearLine_resp (r : Fin 32) (s : State) : (clearLine r s).resp = s.resp := rfl
@[simp] theorem clearLine_port (r : Fin 32) (s : State) : (clearLine r s).port = s.port := rfl
@[simp] theorem clearLine_sched (r : Fin 32) (s : State) : (clearLine r s).sched = s.sched := rfl
@[simp] theorem clearLine_draws (r : Fin 32) (s : State) : (clearLine r s).draws = s.draws := rfl

/-! `shiftLeft` -/

@[simp] theorem shiftLeft_cfg (s : State) : (shiftLeft s).cfg = s.cfg := rfl
@[simp] theorem shiftLeft_terrain (s : State) : (shiftLeft s).terrain = s.terrain := rfl
@[simp] theorem shiftLeft_frame (s : State) : (shiftLeft s).frame = s.frame := rfl
@[simp] theorem shiftLeft_preview (s : State) : (shiftLeft s).preview = s.preview := rfl
@[simp] theorem shiftLeft_glyph (s : State) : (shiftLeft s).glyph = s.glyph := rfl
@[simp] theorem shiftLeft_anchorX (s : State) : (shiftLeft s).anchorX = s.anchorX + 1#4 := rfl
@[simp] theorem shiftLeft_anchorY (s : State) : (shiftLeft s).anchorY = s.anchorY := rfl
@[simp] theorem shiftLeft_cur (s : State) : (shiftLeft s).cur = s.cur := rfl
@[simp] theorem shiftLeft_nextPiece (s : State) : (shiftLeft s).nextPiece = s.nextPiece := rfl
@[simp] theorem shiftLeft_score (s : State) : (shiftLeft s).score = s.score := rfl
@[simp] theorem shiftLeft_halt (s : State) : (shiftLeft s).halt = s.halt := rfl
@[simp] theorem shiftLeft_scan (s : State) : (shiftLeft s).scan = s.scan := rfl
@[simp] theorem shiftLeft_msTick (s : State) : (shiftLeft s).msTick = s.msTick := rfl
@[simp] theorem shiftLeft_debTick (s : State) : (shiftLeft s).debTick = s.debTick := rfl
@[simp] theorem shiftLeft_sr (s : State) : (shiftLeft s).sr = s.sr := rfl
@[simp] theorem shiftLeft_out (s : State) : (shiftLeft s).out = s.out := rfl
@[simp] theorem shiftLeft_cont (s : State) : (shiftLeft s).cont = s.cont := rfl
@[simp] theorem shiftLeft_resp (s : State) : (shiftLeft s).resp = s.resp := rfl
@[simp] theorem shiftLeft_port (s : State) : (shiftLeft s).port = s.port := rfl
@[simp] theorem shiftLeft_sched (s : State) : (shiftLeft s).sched = s.sched := rfl
@[simp] theorem shiftLeft_draws (s : State) : (shiftLeft s).draws = s.draws := rfl

/-! `shiftRight` -/

@[simp] theorem shiftRight_cfg (s : State) : (shiftRight s).cfg = s.cfg := rfl
@[simp] theorem shiftRight_terrain (s : State) : (shiftRight s).terrain = s.terrain := rfl
@[simp] theorem shiftRight_frame (s : State) : (shiftRight s).frame = s.frame := rfl
@[simp] theorem shiftRight_preview (s : State) : (shiftRight s).preview = s.preview := rfl
@[simp] theorem shiftRight_glyph (s : State) : (shiftRight s).glyph = s.glyph := rfl
@[simp] theorem shiftRight_anchorX (s : State) : (shiftRight s).anchorX = s.anchorX - 1#4 := rfl
@[simp] theorem shiftRight_anchorY (s : State) : (shiftRight s).anchorY = s.anchorY := rfl
@[simp] theorem shiftRight_cur (s : State) : (shiftRight s).cur = s.cur := rfl
@[simp] theorem shiftRight_nextPiece (s : State) : (shiftRight s).nextPiece = s.nextPiece := rfl
@[simp] theorem shiftRight_score (s : State) : (shiftRight s).score = s.score := rfl
@[simp] theorem shiftRight_halt (s : State) : (shiftRight s).halt = s.halt := rfl
@[simp] theorem shiftRight_scan (s : State) : (shiftRight s).scan = s.scan := rfl
@[simp] theorem shiftRight_msTick (s : State) : (shiftRight s).msTick = s.msTick := rfl
@[simp] theorem shiftRight_debTick (s : State) : (shiftRight s).debTick = s.debTick := rfl
@[simp] theorem shiftRight_sr (s : State) : (shiftRight s).sr = s.sr := rfl
@[simp] theorem shiftRight_out (s : State) : (shiftRight s).out = s.out := rfl
@[simp] theorem shiftRight_cont (s : State) : (shiftRight s).cont = s.cont := rfl
@[simp] theorem shiftRight_resp (s : State) : (shiftRight s).resp = s.resp := rfl
@[simp] theorem shiftRight_port (s : State) : (shiftRight s).port = s.port := rfl
@[simp] theorem shiftRight_sched (s : State) : (shiftRight s).sched = s.sched := rfl
@[simp] theorem shiftRight_draws (s : State) : (shiftRight s).draws = s.draws := rfl

/-! `shiftDown` -/

@[simp] theorem shiftDown_cfg (s : State) : (shiftDown s).cfg = s.cfg := rfl
@[simp] theorem shiftDown_terrain (s : State) : (shiftDown s).terrain = s.terrain := rfl
@[simp] theorem shiftDown_frame (s : State) : (shiftDown s).frame = s.frame := rfl
@[simp] theorem shiftDown_preview (s : State) : (shiftDown s).preview = s.preview := rfl
@[simp] theorem shiftDown_glyph (s : State) : (shiftDown s).glyph = s.glyph := rfl
@[simp] theorem shiftDown_anchorX (s : State) : (shiftDown s).anchorX = s.anchorX := rfl
@[simp] theorem shiftDown_anchorY (s : State) : (shiftDown s).anchorY = s.anchorY + 1#5 := rfl
@[simp] theorem shiftDown_cur (s : State) : (shiftDown s).cur = s.cur := rfl
@[simp] theorem shiftDown_nextPiece (s : State) : (shiftDown s).nextPiece = s.nextPiece := rfl
@[simp] theorem shiftDown_score (s : State) : (shiftDown s).score = s.score := rfl
@[simp] theorem shiftDown_halt (s : State) : (shiftDown s).halt = s.halt := rfl
@[simp] theorem shiftDown_scan (s : State) : (shiftDown s).scan = s.scan := rfl
@[simp] theorem shiftDown_msTick (s : State) : (shiftDown s).msTick = s.msTick := rfl
@[simp] theorem shiftDown_debTick (s : State) : (shiftDown s).debTick = s.debTick := rfl
@[simp] theorem shiftDown_sr (s : State) : (shiftDown s).sr = s.sr := rfl
@[simp] theorem shiftDown_out (s : State) : (shiftDown s).out = s.out := rfl
@[simp] theorem shiftDown_cont (s : State) : (shiftDown s).cont = s.cont := rfl
@[simp] theorem shiftDown_resp (s : State) : (shiftDown s).resp = s.resp := rfl
@[simp] theorem shiftDown_port (s : State) : (shiftDown s).port = s.port := rfl
@[simp] theorem shiftDown_sched (s : State) : (shiftDown s).sched = s.sched := rfl
@[simp] theorem shiftDown_draws (s : State) : (shiftDown s).draws = s.draws := rfl

/-! `rotate3` -/

@[simp] theorem rotate3_cfg (s : State) : (rotate3 s).cfg = s.cfg := rfl
@[simp] theorem rotate3_terrain (s : State) : (rotate3 s).terrain = s.terrain := rfl
@[simp] theorem rotate3_frame (s : State) : (rotate3 s).frame = s.frame := rfl
@[simp] theorem rotate3_preview (s : State) : (rotate3 s).preview = s.preview := rfl
@[simp] theorem rotate3_glyph (s : State) : (rotate3 s).glyph = s.glyph := rfl
@[simp] theorem rotate3_anchorX (s : State) : (rotate3 s).anchorX = s.anchorX := rfl
@[simp] theorem rotate3_anchorY (s : State) : (rotate3 s).anchorY = s.anchorY := rfl
@[simp] theorem rotate3_cur (s : State) : (rotate3 s).cur = s.cur := rfl
@[simp] theorem rotate3_nextPiece (s : State) : (rotate3 s).nextPiece = s.nextPiece := rfl
@[simp] theorem rotate3_score (s : State) : (rotate3 s).score = s.score := rfl
@[simp] theorem rotate3_halt (s : State) : (rotate3 s).halt = s.halt := rfl
@[simp] theorem rotate3_scan (s : State) : (rotate3 s).scan = s.scan := rfl
@[simp] theorem rotate3_msTick (s : State) : (rotate3 s).msTick = s.msTick := rfl
@[simp] theorem rotate3_debTick (s : State) : (rotate3 s).debTick = s.debTick := rfl
@[simp] theorem rotate3_sr (s : State) : (rotate3 s).sr = s.sr := rfl
@[simp] theorem rotate3_out (s : State) : (rotate3 s).out = s.out := rfl
@[simp] theorem rotate3_cont (s : State) : (rotate3 s).cont = s.cont := rfl
@[simp] theorem rotate3_resp (s : State) : (rotate3 s).resp = s.resp := rfl
@[simp] theorem rotate3_port (s : State) : (rotate3 s).port = s.port := rfl
@[simp] theorem rotate3_sched (s : State) : (rotate3 s).sched = s.sched := rfl
@[simp] theorem rotate3_draws (s : State) : (rotate3 s).draws = s.draws := rfl

/-! `toggleCells` -/

@[simp] theorem toggleCells_cfg (old new : List Cell) (s : State) : (toggleCells old new s).cfg = s.cfg := rfl
@[simp] theorem toggleCells_terrain (old new : List Cell) (s : State) :
    (toggleCells old new s).terrain = s.terrain := rfl
@[simp] theorem toggleCells_active (old new : List Cell) (s : State) :
    (toggleCells old new s).active = new.foldl setCell (old.foldl clearCell s.active) := rfl
@[simp] theorem toggleCells_frame (old new : List Cell) (s : State) :
    (toggleCells old new s).frame = s.frame := rfl
@[simp] theorem toggleCells_preview (old new : List Cell) (s : State) :
    (toggleCells old new s).preview = s.preview := rfl
@[simp] theorem toggleCells_glyph (old new : List Cell) (s : State) :
    (toggleCells old new s).glyph = s.glyph := rfl
@[simp] theorem toggleCells_anchorX (old new : List Cell) (s : State) :
    (toggleCells old new s).anchorX = s.anchorX := rfl
@[simp] theorem toggleCells_anchorY (old new : List Cell) (s : State) :
    (toggleCells old new s).anchorY = s.anchorY := rfl
@[simp] theorem toggleCells_cur (old new : List Cell) (s : State) : (toggleCells old new s).cur = s.cur := rfl
@[simp] theorem toggleCells_nextPiece (old new : List Cell) (s : State) :
    (toggleCells old new s).nextPiece = s.nextPiece := rfl
@[simp] theorem toggleCells_score (old new : List Cell) (s : State) :
    (toggleCells old new s).score = s.score := rfl
@[simp] theorem toggleCells_halt (old new : List Cell) (s : State) : (toggleCells old new s).halt = s.halt := rfl
@[simp] theorem toggleCells_scan (old new : List Cell) (s : State) : (toggleCells old new s).scan = s.scan := rfl
@[simp] theorem toggleCells_msTick (old new : List Cell) (s : State) :
    (toggleCells old new s).msTick = s.msTick := rfl
@[simp] theorem toggleCells_debTick (old new : List Cell) (s : State) :
    (toggleCells old new s).debTick = s.debTick := rfl
@[simp] theorem toggleCells_sr (old new : List Cell) (s : State) : (toggleCells old new s).sr = s.sr := rfl
@[simp] theorem toggleCells_out (old new : List Cell) (s : State) : (toggleCells old new s).out = s.out := rfl
@[simp] theorem toggleCells_cont (old new : List Cell) (s : State) : (toggleCells old new s).cont = s.cont := rfl
@[simp] theorem toggleCells_resp (old new : List Cell) (s : State) : (toggleCells old new s).resp = s.resp := rfl
@[simp] theorem toggleCells_port (old new : List Cell) (s : State) : (toggleCells old new s).port = s.port := rfl
@[simp] theorem toggleCells_sched (old new : List Cell) (s : State) :
    (toggleCells old new s).sched = s.sched := rfl
@[simp] theorem toggleCells_draws (old new : List Cell) (s : State) :
    (toggleCells old new s).draws = s.draws := rfl

/-! `promote` -/

@[simp] theorem promote_cfg (r : Piece) (s : State) : (promote r s).cfg = s.cfg := rfl
@[simp] theorem promote_terrain (r : Piece) (s : State) : (promote r s).terrain = s.terrain := rfl
@[simp] theorem promote_frame (r : Piece) (s : State) : (promote r s).frame = s.frame := rfl
@[simp] theorem promote_preview (r : Piece) (s : State) : (promote r s).preview = s.preview := rfl
@[simp] theorem promote_glyph (r : Piece) (s : State) : (promote r s).glyph = s.glyph := rfl
@[simp] theorem promote_anchorX (r : Piece) (s : State) : (promote r s).anchorX = s.cfg.spawnX := rfl
@[simp] theorem promote_anchorY (r : Piece) (s : State) : (promote r s).anchorY = s.cfg.spawnY := rfl
@[simp] theorem promote_cur (r : Piece) (s : State) : (promote r s).cur = s.nextPiece := rfl
@[simp] theorem promote_nextPiece (r : Piece) (s : State) : (promote r s).nextPiece = r := rfl
@[simp] theorem promote_score (r : Piece) (s : State) : (promote r s).score = s.score := rfl
@[simp] theorem promote_halt (r : Piece) (s : State) : (promote r s).halt = s.halt := rfl
@[simp] theorem promote_scan (r : Piece) (s : State) : (promote r s).scan = s.scan := rfl
@[simp] theorem promote_msTick (r : Piece) (s : State) : (promote r s).msTick = s.msTick := rfl
@[simp] theorem promote_debTick (r : Piece) (s : State) : (promote r s).debTick = s.debTick := rfl
@[simp] theorem promote_sr (r : Piece) (s : State) : (promote r s).sr = s.sr := rfl
@[simp] theorem promote_out (r : Piece) (s : State) : (promote r s).out = s.out := rfl
@[simp] theorem promote_cont (r : Piece) (s : State) : (promote r s).cont = s.cont := rfl
@[simp] theorem promote_resp (r : Piece) (s : State) : (promote r s).resp = s.resp := rfl
@[simp] theorem promote_port (r : Piece) (s : State) : (promote r s).port = s.port := rfl
@[simp] theorem promote_sched (r : Piece) (s : State) : (promote r s).sched = s.sched := rfl
@[simp] theorem promote_draws (r : Piece) (s : State) : (promote r s).draws = s.draws := rfl

/-! `placeShape` -/

@[simp] theorem placeShape_cfg (s : State) : (placeShape s).cfg = s.cfg := rfl
@[simp] theorem placeShape_terrain (s : State) : (placeShape s).terrain = s.terrain := rfl
@[simp] theorem placeShape_active (s : State) :
    (placeShape s).active = (s.active.set (shapeRow0 s.cfg) s.cfg.shape[s.cur].1).set (shapeRow1 s.cfg) s.cfg.shape[s.cur].2 := rfl
@[simp] theorem placeShape_frame (s : State) : (placeShape s).frame = s.frame := rfl
@[simp] theorem placeShape_glyph (s : State) : (placeShape s).glyph = s.glyph := rfl
@[simp] theorem placeShape_anchorX (s : State) : (placeShape s).anchorX = s.anchorX := rfl
@[simp] theorem placeShape_anchorY (s : State) : (placeShape s).anchorY = s.anchorY := rfl
@[simp] theorem placeShape_cur (s : State) : (placeShape s).cur = s.cur := rfl
@[simp] theorem placeShape_nextPiece (s : State) : (placeShape s).nextPiece = s.nextPiece := rfl
@[simp] theorem placeShape_score (s : State) : (placeShape s).score = s.score := rfl
@[simp] theorem placeShape_halt (s : State) : (placeShape s).halt = s.halt := rfl
@[simp] theorem placeShape_scan (s : State) : (placeShape s).scan = s.scan := rfl
@[simp] theorem placeShape_msTick (s : State) : (placeShape s).msTick = s.msTick := rfl
@[simp] theorem placeShape_debTick (s : State) : (placeShape s).debTick = s.debTick := rfl
@[simp] theorem placeShape_sr (s : State) : (placeShape s).sr = s.sr := rfl
@[simp] theorem placeShape_out (s : State) : (placeShape s).out = s.out := rfl
@[simp] theorem placeShape_cont (s : State) : (placeShape s).cont = s.cont := rfl
@[simp] theorem placeShape_resp (s : State) : (placeShape s).resp = s.resp := rfl
@[simp] theorem placeShape_port (s : State) : (placeShape s).port = s.port := rfl
@[simp] theorem placeShape_sched (s : State) : (placeShape s).sched = s.sched := rfl
@[simp] theorem placeShape_draws (s : State) : (placeShape s).draws = s.draws := rfl

/-! `startBoard` -/

@[simp] theorem startBoard_cfg (r : Piece) (s : State) : (startBoard r s).cfg = s.cfg := rfl
@[simp] theorem startBoard_active (r : Piece) (s : State) :
    (startBoard r s).active = Vector.replicate 32 0#16 := rfl
@[simp] theorem startBoard_frame (r : Piece) (s : State) : (startBoard r s).frame = s.frame := rfl
@[simp] theorem startBoard_preview (r : Piece) (s : State) :
    (startBoard r s).preview = Vector.replicate 2 0#16 := rfl
@[simp] theorem startBoard_anchorX (r : Piece) (s : State) : (startBoard r s).anchorX = s.cfg.spawnX := rfl
@[simp] theorem startBoard_anchorY (r : Piece) (s : State) : (startBoard r s).anchorY = s.cfg.spawnY := rfl
@[simp] theorem startBoard_cur (r : Piece) (s : State) : (startBoard r s).cur = r := rfl
@[simp] theorem startBoard_nextPiece (r : Piece) (s : State) : (startBoard r s).nextPiece = r := rfl
@[simp] theorem startBoard_score (r : Piece) (s : State) : (startBoard r s).score = 0 := rfl
@[simp] theorem startBoard_halt (r : Piece) (s : State) : (startBoard r s).halt = s.halt := rfl
@[simp] theorem startBoard_scan (r : Piece) (s : State) : (startBoard r s).scan = s.scan := rfl
@[simp] theorem startBoard_msTick (r : Piece) (s : State) : (startBoard r s).msTick = s.msTick := rfl
@[simp] theorem startBoard_debTick (r : Piece) (s : State) : (startBoard r s).debTick = s.debTick := rfl
@[simp] theorem startBoard_sr (r : Piece) (s : State) : (startBoard r s).sr = s.sr := rfl
@[simp] theorem startBoard_out (r : Piece) (s : State) : (startBoard r s).out = s.out := rfl
@[simp] theorem startBoard_cont (r : Piece) (s : State) : (startBoard r s).cont = s.cont := rfl
@[simp] theorem startBoard_resp (r : Piece) (s : State) : (startBoard r s).resp = s.resp := rfl
@[simp] theorem startBoard_port (r : Piece) (s : State) : (startBoard r s).port = s.port := rfl
@[simp] theorem startBoard_sched (r : Piece) (s : State) : (startBoard r s).sched = s.sched := rfl
@[simp] theorem startBoard_draws (r : Piece) (s : State) : (startBoard r s).draws = s.draws := rfl

/-! `tickEvent` -/

@[simp] theorem tickEvent_cfg (s : State) : (tickEvent s).cfg = s.cfg := rfl
@[simp] theorem tickEvent_terrain (s : State) : (tickEvent s).terrain = s.terrain := rfl
@[simp] theorem tickEvent_active (s : State) : (tickEvent s).active = s.active := rfl
@[simp] theorem tickEvent_frame (s : State) : (tickEvent s).frame = s.frame := rfl
@[simp] theorem tickEvent_preview (s : State) : (tickEvent s).preview = s.preview := rfl
@[simp] theorem tickEvent_glyph (s : State) : (tickEvent s).glyph = s.glyph := rfl
@[simp] theorem tickEvent_anchorX (s : State) : (tickEvent s).anchorX = s.anchorX := rfl
@[simp] theorem tickEvent_anchorY (s : State) : (tickEvent s).anchorY = s.anchorY := rfl
@[simp] theorem tickEvent_cur (s : State) : (tickEvent s).cur = s.cur := rfl
@[simp] theorem tickEvent_nextPiece (s : State) : (tickEvent s).nextPiece = s.nextPiece := rfl
@[simp] theorem tickEvent_score (s : State) : (tickEvent s).score = s.score := rfl
@[simp] theorem tickEvent_halt (s : State) : (tickEvent s).halt = s.halt := rfl
@[simp] theorem tickEvent_scan (s : State) : (tickEvent s).scan = s.scan + 1#5 := rfl
@[simp] theorem tickEvent_msTick (s : State) : (tickEvent s).msTick = countUp s.cfg.tickW s.msTick := rfl
@[simp] theorem tickEvent_debTick (s : State) : (tickEvent s).debTick = countUp s.cfg.debW s.debTick := rfl
@[simp] theorem tickEvent_sr (s : State) : (tickEvent s).sr = sendBytes s.cfg s.sr (serialBytes s) := rfl
@[simp] theorem tickEvent_out (s : State) : (tickEvent s).out = sendBytes s.cfg s.sr (serialBytes s) := rfl
@[simp] theorem tickEvent_cont (s : State) : (tickEvent s).cont = s.cont := rfl
@[simp] theorem tickEvent_resp (s : State) : (tickEvent s).resp = s.resp := rfl
@[simp] theorem tickEvent_port (s : State) : (tickEvent s).port = s.port := rfl
@[simp] theorem tickEvent_sched (s : State) : (tickEvent s).sched = s.sched := rfl
@[simp] theorem tickEvent_draws (s : State) : (tickEvent s).draws = s.draws := rfl

end Sys2Proof.Machine
end

