-- ==== Sys2Proof/Laws/Ops.lean ====
section
/-! SUPPORT. What each shared operation can do, said once: element access, the operand checks, the `HALT`
check, the choice of who moves, the moves, the line clear, the spawn. -/

namespace Sys2Proof

@[simp] theorem tabulate_getElem {α : Type} {n : Nat} (f : Fin n → α) (i : Nat) (h : i < n) :
    (tabulate f)[i] = f ⟨i, h⟩ := by
  unfold tabulate
  exact Vector.getElem_ofFn h

@[simp] theorem tabulate_getElem_fin {α : Type} {n : Nat} (f : Fin n → α) (i : Fin n) :
    (tabulate f)[i] = f i := tabulate_getElem f i.val i.isLt

theorem vector_ext {α : Type} {n : Nat} {v w : Vector α n} (h : ∀ i : Fin n, v[i] = w[i]) : v = w :=
  Vector.ext fun i hi => h ⟨i, hi⟩

theorem set_getElem_fin {α : Type} {n : Nat} (v : Vector α n) (i j : Fin n) (x : α) :
    (v.set i x)[j] = if j = i then x else v[j] := by
  simp only [Fin.getElem_fin, Vector.getElem_set]
  by_cases h : j = i
  · simp [h]
  · have : i.val ≠ j.val := fun e => h (Fin.ext e.symm)
    simp [h, this]

theorem foldl_or_keeps {n : Nat} (l : List (BitVec n)) :
    ∀ acc v : BitVec n, v &&& acc = v → v &&& l.foldl (· ||| ·) acc = v := by
  induction l with
  | nil => exact fun _ _ h => h
  | cons x l ih =>
    intro acc v h
    apply ih
    apply BitVec.eq_of_getLsbD_eq
    intro i hi
    have hb := congrArg (BitVec.getLsbD · i) h
    simp only [BitVec.getLsbD_and, BitVec.getLsbD_or] at hb ⊢
    revert hb
    cases v.getLsbD i <;> cases acc.getLsbD i <;> simp

theorem foldl_or_covers {n : Nat} (l : List (BitVec n)) :
    ∀ acc v : BitVec n, v ∈ l → v &&& l.foldl (· ||| ·) acc = v := by
  induction l with
  | nil => exact fun _ _ h => absurd h List.not_mem_nil
  | cons x l ih =>
    intro acc v h
    rcases List.mem_cons.mp h with rfl | h
    · refine foldl_or_keeps l (acc ||| v) v (BitVec.eq_of_getLsbD_eq fun i _ => ?_)
      simp only [BitVec.getLsbD_and, BitVec.getLsbD_or]
      cases v.getLsbD i <;> simp
    · exact ih _ _ h

/-- `placeBits` holds every glyph row of its digit place. -/
theorem font_and_placeBits (c : Config) (p : Fin 3) (d : Fin 10) (k : Fin 5) :
    c.font[p][d][k] &&& c.placeBits p = c.font[p][d][k] := by
  have inner : ∀ (l : List (Vector Row 5)) (acc : Row), c.font[p][d][k] &&& acc = c.font[p][d][k] →
      c.font[p][d][k] &&& l.foldl (fun acc rows => rows.toList.foldl (· ||| ·) acc) acc = c.font[p][d][k] := by
    intro l
    induction l with
    | nil => exact fun _ h => h
    | cons x l ih => exact fun acc h => ih _ (foldl_or_keeps _ _ _ h)
  have outer : ∀ (l : List (Vector Row 5)) (acc : Row), c.font[p][d] ∈ l →
      c.font[p][d][k] &&& l.foldl (fun acc rows => rows.toList.foldl (· ||| ·) acc) acc = c.font[p][d][k] := by
    intro l
    induction l with
    | nil => exact fun _ h => absurd h List.not_mem_nil
    | cons x l ih =>
      intro acc h
      rcases List.mem_cons.mp h with rfl | h
      · exact inner l _ (foldl_or_covers c.font[p][d].toList acc _ (Vector.mem_toList_iff.mpr (Vector.getElem_mem k.isLt)))
      · exact ih _ h
  exact outer _ _ (Vector.mem_toList_iff.mpr (Vector.getElem_mem d.isLt))

/-- The condition of R9 on `FONT`, as R9 words it. -/
theorem fontDisjoint_rows {c : Config} (h : c.fontDisjoint = true) {p q : Fin 3} (hpq : p ≠ q) (d e : Fin 10)
    (k j : Fin 5) : c.font[p][d][k] &&& c.font[q][e][j] = 0#16 := by
  have hz : c.placeBits p &&& c.placeBits q = 0#16 := by
    simp only [Config.fontDisjoint, Bool.and_eq_true, beq_iff_eq] at h
    obtain ⟨⟨h01, h02⟩, h12⟩ := h
    fin_cases p <;> fin_cases q <;> first | exact absurd rfl hpq | assumption | (rw [BitVec.and_comm]; assumption)
  rw [← font_and_placeBits c p d k, ← font_and_placeBits c q e j]
  apply BitVec.eq_of_getLsbD_eq
  intro i hi
  have hb := congrArg (BitVec.getLsbD · i) hz
  simp only [BitVec.getLsbD_and, BitVec.getLsbD_zero] at hb ⊢
  revert hb
  cases (c.placeBits p).getLsbD i <;> cases (c.placeBits q).getLsbD i <;> simp

namespace Machine

@[simp] theorem whenRunning_run {s : State} (h : s.halt = false) (k : Result) : whenRunning s k = k := by
  simp [whenRunning, h]

@[simp] theorem whenRunning_halted {s : State} (h : s.halt = true) (k : Result) :
    whenRunning s k = .next (s.refuse .halted) := by
  simp [whenRunning, h]

theorem whenRunning_next {s t : State} {k : Result} (h : whenRunning s k = .next t) :
    (s.halt = true ∧ t = s.refuse .halted) ∨ (s.halt = false ∧ k = .next t) := by
  unfold whenRunning at h
  split at h
  · left; rename_i hh; exact ⟨hh, by injection h with h; exact h.symm⟩
  · right; rename_i hh; exact ⟨by simpa using hh, h⟩

@[simp] theorem inRange_some {α : Type} (x : α) (s : State) (k : α → Result) : inRange (some x) s k = k x := rfl
@[simp] theorem inRange_none {α : Type} (s : State) (k : α → Result) :
    inRange none s k = .next (s.refuse .range) := rfl

theorem inRange_next {α : Type} {o : Option α} {s t : State} {k : α → Result} (h : inRange o s k = .next t) :
    (o = none ∧ t = s.refuse .range) ∨ ∃ x, o = some x ∧ k x = .next t := by
  cases o with
  | none => left; injection h with h; exact ⟨rfl, h.symm⟩
  | some x => right; exact ⟨x, rfl, h⟩

theorem rowIndex_lt {a : BitVec 8} (h : a.toNat < 32) : rowIndex a = some ⟨a.toNat, h⟩ := by simp [rowIndex, h]
theorem rowIndex_ge {a : BitVec 8} (h : 31 < a.toNat) : rowIndex a = none := by
  simp [rowIndex, Nat.not_lt.mpr h]
theorem previewIndex_lt {a : BitVec 8} (h : a.toNat < 2) : previewIndex a = some ⟨a.toNat, h⟩ := by
  simp [previewIndex, h]
theorem previewIndex_ge {a : BitVec 8} (h : 1 < a.toNat) : previewIndex a = none := by
  simp [previewIndex, Nat.not_lt.mpr h]
theorem drawOperand_lt {a : BitVec 8} (h : a.toNat < 7) : drawOperand a = some ⟨a.toNat, h⟩ := by
  simp [drawOperand, h]
theorem drawOperand_ge {a : BitVec 8} (h : 6 < a.toNat) : drawOperand a = none := by
  simp [drawOperand, Nat.not_lt.mpr h]
theorem glyphIndex_lt {p k : BitVec 4} (hp : p.toNat < 3) (hk : k.toNat < 5) :
    glyphIndex p k = some (⟨p.toNat, hp⟩, ⟨k.toNat, hk⟩) := by simp [glyphIndex, hp, hk]
theorem glyphIndex_ge {p k : BitVec 4} (h : 2 < p.toNat ∨ 4 < k.toNat) : glyphIndex p k = none := by
  simp only [glyphIndex]
  rw [dif_neg]
  omega
theorem pieceValue_lt {v : BitVec 16} (h : v.toNat < 7) : pieceValue v = some ⟨v.toNat, h⟩ := by
  simp [pieceValue, h]
theorem pieceValue_ge {v : BitVec 16} (h : 6 < v.toNat) : pieceValue v = none := by
  simp [pieceValue, Nat.not_lt.mpr h]

theorem counterValue_lt {w : Nat} {v : BitVec 16} (h : v.toNat < 2 ^ w) : counterValue w v = some v.toNat := by
  simp [counterValue, h]
theorem counterValue_ge {w : Nat} {v : BitVec 16} (h : 2 ^ w ≤ v.toNat) : counterValue w v = none := by
  simp [counterValue, Nat.not_lt.mpr h]

/-! The counters stay inside their width, and increments add up. -/

theorem countUp_lt (w n : Nat) : countUp w n < 2 ^ w := Nat.mod_lt _ (Nat.two_pow_pos w)
theorem countDown_lt (w n : Nat) : countDown w n < 2 ^ w := Nat.mod_lt _ (Nat.two_pow_pos w)
@[simp] theorem counted_zero (w n : Nat) : counted w 0 n = n := rfl
theorem counted_pos {w k : Nat} (h : 0 < k) (n : Nat) : counted w k n = (n + k) % 2 ^ w := by
  simp [counted, Nat.pos_iff_ne_zero.mp h]
theorem counted_fits {w n : Nat} (h : n < 2 ^ w) (k : Nat) : counted w k n = (n + k) % 2 ^ w := by
  unfold counted
  split
  · subst k
    exact (Nat.mod_eq_of_lt h).symm
  · rfl
theorem counted_countUp (w k n : Nat) : counted w k (countUp w n) = counted w (k + 1) n := by
  rw [counted_fits (countUp_lt w n), counted_pos (Nat.succ_pos k), countUp, Nat.mod_add_mod, Nat.add_right_comm]
  rfl
theorem countUp_counted (w k n : Nat) : countUp w (counted w k n) = counted w (k + 1) n := by
  rw [counted_pos (Nat.succ_pos k)]
  unfold counted countUp
  split
  · simp_all
  · rw [Nat.mod_add_mod, Nat.add_assoc]

theorem inFoot_iff {c : Config} {y : BitVec 5} {r : Fin 32} :
    inFoot c y r = true ↔ y.toNat ≤ r.val + c.footUp ∧ r.val ≤ y.toNat + c.footDn := by
  simp [inFoot]

theorem overlap_eq_false {p q : Row} : overlap p q = false ↔ p &&& q = 0#16 := by simp [overlap]
theorem overlap_eq_true {p q : Row} : overlap p q = true ↔ p &&& q ≠ 0#16 := by simp [overlap]

/-- The predicates of the collision tester, row by row (R141 to R143). -/
theorem canShiftLeft_iff {s : State} : canShiftLeft s = true ↔ ∀ r : Fin 32, inFoot s.cfg s.anchorY r = true →
    s.active[r] <<< 1 &&& s.terrain[r] = 0#16 := by
  simp [canShiftLeft, foot, overlap, shl16, ← Bool.not_eq_true, ← imp_iff_not_or]
theorem canShiftRight_iff {s : State} : canShiftRight s = true ↔ ∀ r : Fin 32, inFoot s.cfg s.anchorY r = true →
    s.active[r] >>> 1 &&& s.terrain[r] = 0#16 := by
  simp [canShiftRight, foot, overlap, shr16, ← Bool.not_eq_true, ← imp_iff_not_or]
theorem canDescend_iff {s : State} : canDescend s = true ↔
    s.active[31] = 0#16 ∧ ∀ i : Fin 31, s.active[i.val] &&& s.terrain[i.val + 1] = 0#16 := by
  simp [canDescend, overlap]

theorem takeTurn_cons {s : State} {t : Turn} {r : List Turn} (h : s.sched = t :: r) :
    takeTurn s = (t, { s with sched := r }) := by
  unfold takeTurn; rw [h]

theorem takeTurn_nil {s : State} (h : s.sched = []) :
    takeTurn s = takeTurn { s with
      sched := List.replicate (Config.hostMoves s.draws) .host ++ [.tick], draws := s.draws + 1 } := by
  unfold takeTurn
  rw [h]
  cases Config.hostMoves s.draws with
  | zero => rfl
  | succ n => rfl

/-- A turn taken changes the schedule and the count of draws, nothing else. -/
theorem takeTurn_state (s : State) :
    (takeTurn s).2 = { s with sched := (takeTurn s).2.sched, draws := (takeTurn s).2.draws } := by
  unfold takeTurn
  split
  · rfl
  · split <;> rfl

/-- A scheduled turn is the next move. -/
theorem step_cons {s : State} {t : Turn} {rest : List Turn} (h : s.sched = t :: rest) :
    step s = move t { s with sched := rest } := by
  unfold step
  rw [takeTurn_cons h]

@[simp] theorem move_tick (s : State) : move .tick s = .next (tickEvent s) := rfl
@[simp] theorem move_reset (s : State) : move .reset s = .next s.externalReset := rfl

theorem hostMove_micro {s : State} {m : Micro} {rest : List Micro} (h : s.cont = m :: rest) :
    move .host s = .next (runMicro m { s with cont := rest }) := by
  simp [move, hostMove, h]

theorem hostMove_word {s : State} {w : CmdWord} {rest : List CmdWord} (hc : s.cont = []) (hp : s.port = w :: rest) :
    move .host s = issueWord w { s with port := rest } := by
  simp [move, hostMove, hc, hp]

theorem hostMove_idle {s : State} (hc : s.cont = []) (hp : s.port = []) : move .host s = .next s := by
  simp [move, hostMove, hc, hp]

theorem issueWord_ok {w : CmdWord} {i : Instr} (h : decodeCommand w = .ok i) (s : State) :
    issueWord w s = exec i s := by
  simp [issueWord, h]

theorem issueWord_rejected {w : CmdWord} {e : DecodeError} (h : decodeCommand w = .rejected e) (s : State) :
    issueWord w s = .next (illegalWord w s) := by
  simp [issueWord, h]

/-- What a move of the HOST agent can be: a micro-step, a command, a refused word, nothing. -/
theorem hostMove_cases {s t : State} (h : move .host s = .next t) :
    (∃ m rest, s.cont = m :: rest ∧ t = runMicro m { s with cont := rest }) ∨
    (∃ w rest i, s.cont = [] ∧ s.port = w :: rest ∧ decodeCommand w = .ok i ∧
      exec i { s with port := rest } = .next t) ∨
    (∃ w rest e, s.cont = [] ∧ s.port = w :: rest ∧ decodeCommand w = .rejected e ∧
      t = illegalWord w { s with port := rest }) ∨
    (s.cont = [] ∧ s.port = [] ∧ t = s) := by
  cases hc : s.cont with
  | cons m rest =>
    rw [hostMove_micro hc] at h
    injection h with h
    exact .inl ⟨m, rest, rfl, h.symm⟩
  | nil =>
    cases hp : s.port with
    | nil =>
      rw [hostMove_idle hc hp] at h
      injection h with h
      exact .inr (.inr (.inr ⟨rfl, rfl, h.symm⟩))
    | cons w rest =>
      rw [hostMove_word hc hp] at h
      cases hd : decodeCommand w with
      | ok i =>
        rw [issueWord_ok hd] at h
        simp only [hc] at h
        exact .inr (.inl ⟨w, rest, i, rfl, rfl, hd, h⟩)
      | rejected e =>
        rw [issueWord_rejected hd] at h
        injection h with h
        simp only [hc] at h
        exact .inr (.inr (.inl ⟨w, rest, e, rfl, rfl, hd, h.symm⟩))

/-- The line clear writes terrain, score and glyphs, nothing else. -/
theorem lineClearFrom_state (bound : Nat) :
    ∀ (r : Fin 32) (s t : State), lineClearFrom bound r s = some t →
      t = { s with terrain := t.terrain, score := t.score, glyph := t.glyph } := by
  induction bound with
  | zero =>
    intro r s t h
    simp only [lineClearFrom] at h
    split at h
    · injection h with h; subst h; rfl
    · cases h
  | succ n ih =>
    intro r s t h
    simp only [lineClearFrom] at h
    split at h
    · injection h with h; subst h; rfl
    · split at h
      · have := ih r (clearLine r s) t h
        rw [this]
        rfl
      · exact ih (r - 1) s t h

theorem lineClear_state {s t : State} (h : lineClear s = some t) :
    t = { s with terrain := t.terrain, score := t.score, glyph := t.glyph } :=
  lineClearFrom_state 48 31 s t h

/-- `SPAWN-BODY(r)`: Game Over or the piece, by the overlap test after the promotion. -/
theorem spawnBody_cases (r : Piece) (s : State) :
    (spawnBlocked s.nextPiece (promote r s) = true ∧ spawnBody r s = (promote r s).issue gameOverMicros) ∨
    (spawnBlocked s.nextPiece (promote r s) = false ∧
      spawnBody r s = (placeShape (promote r s)).issue composeAndRespond) := by
  unfold spawnBody
  rw [show (promote r s).cur = s.nextPiece from rfl]
  cases h : spawnBlocked s.nextPiece (promote r s) <;> simp

/-- The lengths of the continuations: the 39 row writes of `COMPOSE()` (R198), with the response 40, and the Game Over
sequence. -/
theorem composeMicros_length : composeMicros.length = 39 := by decide
theorem composeAndRespond_length : composeAndRespond.length = 40 := by decide
theorem gameOverMicros_length : gameOverMicros.length = 382 := by
  simp [gameOverMicros, blinkPhase, composeMicros]

end Machine
end Sys2Proof
end

