-- ==== Sys2Proof/Laws/Micro.lean ====
section
/-! SUPPORT. The micro-steps of the HOST agent: what each leaves alone, how they run with TICK events between them, and what
the row writes of `COMPOSE()` add up to. -/

namespace Sys2Proof.Machine

/-- No micro-step writes the configuration. -/
@[simp] theorem runMicro_cfg (m : Micro) (s : State) : (runMicro m s).cfg = s.cfg := by
  cases m <;> first | rfl | (simp only [runMicro]; split <;> rfl)

/-- The state without what the TICK agent writes: two states that agree on it differ by ticks only. -/
def scanZeroed (s : State) : State := { s with scan := 0, msTick := 0, debTick := 0, sr := 0, out := 0 }

/-- A micro-step that neither reads nor writes a tick counter. -/
def Timeless : Micro → Prop
  | .composeBase _ | .composePreview _ | .composeGlyph _ | .paint _ _ | .clearSession | .setHalt | .respond _ => True
  | .clearMs | .waitMs => False

theorem scanZeroed_tick (s : State) : scanZeroed (tickEvent s) = scanZeroed s := rfl

theorem scanZeroed_runMicro {m : Micro} (h : Timeless m) (s : State) :
    scanZeroed (runMicro m s) = runMicro m (scanZeroed s) := by
  cases m <;> first | rfl | exact h.elim

theorem runMicro_cont {m : Micro} (h : Timeless m) (s : State) (c : List Micro) :
    runMicro m { s with cont := c } = { runMicro m s with cont := c } := by
  cases m <;> first | rfl | exact h.elim

/-- Micro-steps performed one after another. -/
def runMicros (ms : List Micro) (s : State) : State := ms.foldl (fun u m => runMicro m u) s

theorem runMicro_scan {m : Micro} (h : Timeless m) (s : State) :
    (runMicro m s).scan = s.scan ∧ (runMicro m s).msTick = s.msTick ∧ (runMicro m s).debTick = s.debTick := by
  cases m <;> first | exact ⟨rfl, rfl, rfl⟩ | exact h.elim

/-- Timeless micro-steps with any TICK events between them: the state but for the scan state is what the micro-steps alone
make of it, and each tick counts once (R70). -/
theorem runTurns_timeless (turns : List Turn) : ∀ (s : State) (ms later : List Micro), (∀ m ∈ ms, Timeless m) →
    s.cont = ms ++ later → Turn.reset ∉ turns → turns.count .host ≤ ms.length →
    ∃ t, runTurns turns s = .next t ∧
      scanZeroed t = { runMicros (ms.take (turns.count .host)) (scanZeroed s) with
        cont := ms.drop (turns.count .host) ++ later } ∧
      t.scan = s.scan + BitVec.ofNat 5 (turns.count .tick) ∧
      t.msTick = counted s.cfg.tickW (turns.count .tick) s.msTick ∧
      t.debTick = counted s.cfg.debW (turns.count .tick) s.debTick := by
  induction turns with
  | nil =>
    intro s ms later hp hc _ _
    refine ⟨s, rfl, ?_, by simp, by simp, by simp⟩
    simp only [List.count_nil, List.take_zero, List.drop_zero, runMicros, List.foldl_nil, ← hc]
    rfl
  | cons a l ih =>
    intro s ms later hp hc hr hn
    have hr' : Turn.reset ∉ l := fun h => hr (List.mem_cons_of_mem _ h)
    cases a with
    | reset => exact absurd (List.mem_cons_self) hr
    | tick =>
      simp only [List.count_cons, show ((Turn.tick == Turn.host) = false) from rfl,
        show ((Turn.tick == Turn.tick) = true) from rfl] at *
      obtain ⟨t, h1, h2, h3, h4, h5⟩ := ih (tickEvent s) ms later hp hc hr' (by simpa using hn)
      refine ⟨t, ?_, ?_, ?_, ?_, ?_⟩
      · simpa [runTurns, move, exec, execTick] using h1
      · simpa [scanZeroed_tick] using h2
      · rw [h3]; simp only [tickEvent_scan, if_true, BitVec.ofNat_add]; rw [BitVec.add_assoc, BitVec.add_comm 1#5]
      · rw [h4, tickEvent_cfg, tickEvent_msTick, counted_countUp]; simp only [if_true]
      · rw [h5, tickEvent_cfg, tickEvent_debTick, counted_countUp]; simp only [if_true]
    | host =>
      cases ms with
      | nil => simp at hn
      | cons m ms =>
        have hm : Timeless m := hp m List.mem_cons_self
        have hp' : ∀ x ∈ ms, Timeless x := fun x hx => hp x (List.mem_cons_of_mem _ hx)
        simp only [List.count_cons, show ((Turn.host == Turn.host) = true) from rfl,
          show ((Turn.host == Turn.tick) = false) from rfl] at *
        have hmove : move .host s = .next (runMicro m { s with cont := ms ++ later }) := by
          simp [move, hostMove, hc]
        have hcont : (runMicro m { s with cont := ms ++ later }).cont = ms ++ later := by
          rw [runMicro_cont hm]
        obtain ⟨t, h1, h2, h3, h4, h5⟩ :=
          ih (runMicro m { s with cont := ms ++ later }) ms later hp' hcont hr' (by simpa using hn)
        refine ⟨t, ?_, ?_, ?_, ?_, ?_⟩
        · simp [runTurns, hmove, h1]
        · rw [h2, scanZeroed_runMicro hm]; simp only [if_true]
          simp only [List.take_succ_cons, List.drop_succ_cons]
          have : scanZeroed { s with cont := ms ++ later } = { scanZeroed s with cont := ms ++ later } := rfl
          rw [this, runMicro_cont hm]
          have key : ∀ (l : List Micro) (u : State) (c : List Micro), (∀ x ∈ l, Timeless x) → ∀ d,
              { runMicros l { u with cont := c } with cont := d } = { runMicros l u with cont := d } := by
            intro l
            induction l with
            | nil => intro u c _ d; rfl
            | cons x l ih2 =>
              intro u c hx d
              simp only [runMicros, List.foldl_cons]
              rw [runMicro_cont (hx x List.mem_cons_self)]
              exact ih2 _ _ (fun y hy => hx y (List.mem_cons_of_mem _ hy)) d
          rw [key _ _ _ (fun x hx => hp' x (List.mem_of_mem_take hx))]
          rfl
        · rw [h3, (runMicro_scan hm _).1]; simp
        · rw [h4, (runMicro_scan hm _).2.1, runMicro_cfg]; simp
        · rw [h5, (runMicro_scan hm _).2.2, runMicro_cfg]; simp

theorem runMicros_append (a b : List Micro) (s : State) : runMicros (a ++ b) s = runMicros b (runMicros a s) := by
  simp [runMicros, List.foldl_append]

/-- Only `frame` may differ. -/
def OnlyFrame (s t : State) : Prop := t = { s with frame := t.frame }

theorem OnlyFrame.trans {a b c : State} (h : OnlyFrame a b) (g : OnlyFrame b c) : OnlyFrame a c := by
  unfold OnlyFrame at *
  rw [h] at g
  exact g

theorem runMicros_base (l : List (Fin 32)) : ∀ s : State, OnlyFrame s (runMicros (l.map .composeBase) s) ∧
    ∀ i : Fin 32, (runMicros (l.map .composeBase) s).frame[i] =
      if i ∈ l then s.terrain[i] ||| s.active[i] else s.frame[i] := by
  induction l with
  | nil => intro s; exact ⟨rfl, fun i => by simp [runMicros]⟩
  | cons x l ih =>
    intro s
    obtain ⟨h1, h2⟩ := ih (runMicro (.composeBase x) s)
    refine ⟨OnlyFrame.trans (b := runMicro (.composeBase x) s) rfl h1, fun i => ?_⟩
    have : runMicros ((x :: l).map .composeBase) s = runMicros (l.map .composeBase) (runMicro (.composeBase x) s) := rfl
    rw [this, h2]
    simp only [runMicro, State.setFrame_terrain, State.setFrame_active, State.setFrame_frame]
    rw [set_getElem_fin]
    by_cases h : i ∈ l
    · simp [h]
    · by_cases hx : i = x
      · subst hx; simp [h]
      · simp [h, hx]

theorem runMicros_preview (l : List (Fin 2)) : ∀ s : State, l.Nodup →
    OnlyFrame s (runMicros (l.map .composePreview) s) ∧
    ∀ i : Fin 32, (runMicros (l.map .composePreview) s).frame[i] = s.frame[i] ||| 
      (if i = previewRow s.cfg 0 ∧ 0 ∈ l then s.preview[0]
        else if i = previewRow s.cfg 1 ∧ 1 ∈ l then s.preview[1] else 0#16) := by
  intro s hl
  have hne : previewRow s.cfg 0 ≠ previewRow s.cfg 1 := by simp [previewRow, Fin.ext_iff]
  have h0 : ∀ (s : State) (k : Fin 2) (i : Fin 32), (runMicro (.composePreview k) s).frame[i] =
      if i = previewRow s.cfg k then s.frame[i] ||| s.preview[k] else s.frame[i] := by
    intro s k i
    simp only [runMicro, State.setFrame_frame]
    rw [set_getElem_fin]
    split <;> simp_all
  have hlist : l = [] ∨ l = [0] ∨ l = [1] ∨ l = [0,1] ∨ l = [1,0] := by
    rcases l with _ | ⟨a, _ | ⟨b, _ | ⟨c, l⟩⟩⟩
    · simp
    · fin_cases a <;> simp
    · fin_cases a <;> fin_cases b <;> simp_all
    · exfalso
      have := hl.length_le_card
      simp at this
  rcases hlist with rfl | rfl | rfl | rfl | rfl
  · exact ⟨rfl, fun i => by simp [runMicros]⟩
  · refine ⟨rfl, fun i => ?_⟩
    simp only [runMicros, List.map_cons, List.map_nil, List.foldl_cons, List.foldl_nil, h0]
    split <;> simp_all
  · refine ⟨rfl, fun i => ?_⟩
    simp only [runMicros, List.map_cons, List.map_nil, List.foldl_cons, List.foldl_nil, h0]
    split <;> simp_all
  · refine ⟨rfl, fun i => ?_⟩
    simp only [runMicros, List.map_cons, List.map_nil, List.foldl_cons, List.foldl_nil, h0]
    have : (runMicro (.composePreview 0) s).cfg = s.cfg := rfl
    rw [this]
    have : (runMicro (.composePreview 0) s).preview = s.preview := rfl
    rw [this]
    split <;> split <;> simp_all
  · refine ⟨rfl, fun i => ?_⟩
    simp only [runMicros, List.map_cons, List.map_nil, List.foldl_cons, List.foldl_nil, h0]
    have : (runMicro (.composePreview 1) s).cfg = s.cfg := rfl
    rw [this]
    have : (runMicro (.composePreview 1) s).preview = s.preview := rfl
    rw [this]
    split <;> split <;> simp_all

/-- The union of the three glyph buffers at a glyph row. -/
def glyphUnion (s : State) (k : Fin 5) : Row := s.glyph[0][k] ||| s.glyph[1][k] ||| s.glyph[2][k]

theorem glyphRow_inj (c : Config) {a b : Fin 5} (h : glyphRow c a = glyphRow c b) : a = b := by
  simp [glyphRow, Fin.ext_iff] at h; exact Fin.ext h

theorem runMicros_glyph (l : List (Fin 5)) : ∀ s : State, l.Nodup →
    OnlyFrame s (runMicros (l.map .composeGlyph) s) ∧
    ∀ i : Fin 32, (∀ k ∈ l, i = glyphRow s.cfg k →
        (runMicros (l.map .composeGlyph) s).frame[i] = s.frame[i] ||| glyphUnion s k) ∧
      ((∀ k ∈ l, i ≠ glyphRow s.cfg k) → (runMicros (l.map .composeGlyph) s).frame[i] = s.frame[i]) := by
  induction l with
  | nil => intro s _; exact ⟨rfl, fun i => ⟨by simp, fun _ => rfl⟩⟩
  | cons x l ih =>
    intro s hl
    have hl' := List.nodup_cons.mp hl
    obtain ⟨h1, h2⟩ := ih (runMicro (.composeGlyph x) s) hl'.2
    refine ⟨OnlyFrame.trans (b := runMicro (.composeGlyph x) s) rfl h1, fun i => ?_⟩
    have e : runMicros ((x :: l).map .composeGlyph) s =
        runMicros (l.map .composeGlyph) (runMicro (.composeGlyph x) s) := rfl
    have hf : (runMicro (.composeGlyph x) s).frame[i] =
        if i = glyphRow s.cfg x then s.frame[i] ||| glyphUnion s x else s.frame[i] := by
      simp only [runMicro, State.setFrame_frame]
      rw [set_getElem_fin]
      split
      · rename_i h; subst h; simp [glyphUnion, BitVec.or_assoc]
      · rfl
    obtain ⟨h3, h4⟩ := h2 i
    rw [e]
    refine ⟨fun k hk hi => ?_, fun h => ?_⟩
    · rcases List.mem_cons.mp hk with rfl | hk
      · rw [h4, hf, if_pos hi]
        intro k' hk' hi'
        have := glyphRow_inj _ (hi.symm.trans hi')
        subst this
        exact hl'.1 hk'
      · rw [h3 k hk hi, hf, if_neg]
        · rfl
        · intro hx
          have := glyphRow_inj _ (hx.symm.trans hi)
          subst this
          exact hl'.1 hk
    · rw [h4 (fun k hk => h k (List.mem_cons_of_mem _ hk)), hf, if_neg (h x List.mem_cons_self)]

theorem glyphOverlay_row (s : State) (k : Fin 5) : glyphOverlay s (glyphRow s.cfg k) = glyphUnion s k := by
  unfold glyphOverlay glyphRow glyphUnion
  rw [dif_pos (by constructor <;> simp; omega)]
  simp

theorem glyphOverlay_none (s : State) (i : Fin 32) (h : ∀ k, i ≠ glyphRow s.cfg k) : glyphOverlay s i = 0#16 := by
  unfold glyphOverlay
  rw [dif_neg]
  intro ⟨h1, h2⟩
  apply h ⟨i.val - s.cfg.glyphRow0.val, by omega⟩
  apply Fin.ext; simp [glyphRow]; omega

theorem timeless_composeMicros : ∀ m ∈ composeMicros, Timeless m := by
  intro m hm
  simp only [composeMicros, List.mem_append, List.mem_map] at hm
  rcases hm with (⟨_, _, rfl⟩ | ⟨_, _, rfl⟩) | ⟨_, _, rfl⟩ <;> trivial

theorem timeless_composeAndRespond : ∀ m ∈ composeAndRespond, Timeless m := by
  intro m hm
  rcases List.mem_append.mp hm with h | h
  · exact timeless_composeMicros m h
  · simp at h; subst h; trivial

theorem OnlyFrame.terrain {s t : State} (h : OnlyFrame s t) : t.terrain = s.terrain := by unfold OnlyFrame at h; rw [h]

theorem OnlyFrame.active {s t : State} (h : OnlyFrame s t) : t.active = s.active := by unfold OnlyFrame at h; rw [h]

theorem OnlyFrame.preview {s t : State} (h : OnlyFrame s t) : t.preview = s.preview := by unfold OnlyFrame at h; rw [h]

theorem OnlyFrame.glyph {s t : State} (h : OnlyFrame s t) : t.glyph = s.glyph := by unfold OnlyFrame at h; rw [h]

theorem OnlyFrame.cfg {s t : State} (h : OnlyFrame s t) : t.cfg = s.cfg := by unfold OnlyFrame at h; rw [h]

/-- The 39 row writes of `COMPOSE()` build the frame of R197 and write nothing else. -/
theorem runMicros_compose (s : State) : OnlyFrame s (runMicros composeMicros s) ∧
    ∀ i : Fin 32, (runMicros composeMicros s).frame[i] = composedRow s i := by
  unfold composeMicros
  rw [runMicros_append, runMicros_append]
  obtain ⟨a1, a2⟩ := runMicros_base (List.finRange 32) s
  generalize runMicros ((List.finRange 32).map .composeBase) s = u at *
  obtain ⟨b1, b2⟩ := runMicros_preview (List.finRange 2) u (by decide)
  generalize runMicros ((List.finRange 2).map .composePreview) u = v at *
  obtain ⟨c1, c2⟩ := runMicros_glyph (List.finRange 5) v (by decide)
  refine ⟨(a1.trans b1).trans c1, fun i => ?_⟩
  have hv : v.frame[i] = s.terrain[i] ||| s.active[i] ||| previewOverlay s i := by
    rw [b2, a2, if_pos (List.mem_finRange i)]
    simp [previewOverlay, a1.cfg, a1.preview]
  have hvc : v.cfg = s.cfg := b1.cfg.trans a1.cfg
  have hvg : v.glyph = s.glyph := b1.glyph.trans a1.glyph
  unfold composedRow
  by_cases h : ∃ k, i = glyphRow v.cfg k
  · obtain ⟨k, hk⟩ := h
    rw [(c2 i).1 k (List.mem_finRange k) hk, hv, hk, hvc, glyphOverlay_row]
    simp [glyphUnion, hvg]
  · have h' : ∀ k, i ≠ glyphRow v.cfg k := fun k hk => h ⟨k, hk⟩
    rw [(c2 i).2 (fun k _ => h' k), hv, glyphOverlay_none s i (by rw [← hvc]; exact h')]
    simp
end Sys2Proof.Machine
end

