-- ==== Sys2Proof/Laws/PerInstr.lean ====
section
/-! SUPPORT. One statement about every instruction as syntax, a lemma per constructor: its encoding is a word of its own
row of the table. -/

namespace Sys2Proof.Laws.EncodesItsRow

/-- The command word of an instruction carries the `op` of its row, and zero in the fields its format does not use;
`TICK`, which has no command word, is the tick line (R91, R93, R98). -/
def Statement (i : Instr) : Prop :=
  match i.fields with
  | some (o, a, d) =>
    encode i = .command (commandWord o.code a d) ∧ opField (commandWord o.code a d) = o.code ∧
      unusedZero o.format (aField (commandWord o.code a d)) (dField (commandWord o.code a d)) = true ∧
      (o.instr a d).mnemonic = i.mnemonic
  | none => encode i = .tickLine ∧ i = .tick

theorem nop : Statement .nop := by
  simp [Statement, Instr.fields, encode, unusedZero, Opcode.format, Opcode.instr, Instr.mnemonic]
theorem wrt (i : BitVec 8) (v : Row) : Statement (.wrt i v) := by
  simp [Statement, Instr.fields, encode, unusedZero, Opcode.format, Opcode.instr, Instr.mnemonic]
theorem rdt (i : BitVec 8) : Statement (.rdt i) := by
  simp [Statement, Instr.fields, encode, unusedZero, Opcode.format, Opcode.instr, Instr.mnemonic]
theorem wra (i : BitVec 8) (v : Row) : Statement (.wra i v) := by
  simp [Statement, Instr.fields, encode, unusedZero, Opcode.format, Opcode.instr, Instr.mnemonic]
theorem rda (i : BitVec 8) : Statement (.rda i) := by
  simp [Statement, Instr.fields, encode, unusedZero, Opcode.format, Opcode.instr, Instr.mnemonic]
theorem wrf (i : BitVec 8) (v : Row) : Statement (.wrf i v) := by
  simp [Statement, Instr.fields, encode, unusedZero, Opcode.format, Opcode.instr, Instr.mnemonic]
theorem rdf (i : BitVec 8) : Statement (.rdf i) := by
  simp [Statement, Instr.fields, encode, unusedZero, Opcode.format, Opcode.instr, Instr.mnemonic]
theorem wrp (i : BitVec 8) (v : Row) : Statement (.wrp i v) := by
  simp [Statement, Instr.fields, encode, unusedZero, Opcode.format, Opcode.instr, Instr.mnemonic]
theorem rdp (i : BitVec 8) : Statement (.rdp i) := by
  simp [Statement, Instr.fields, encode, unusedZero, Opcode.format, Opcode.instr, Instr.mnemonic]
theorem wrg (p k : BitVec 4) (v : Row) : Statement (.wrg p k v) := by
  simp [Statement, Instr.fields, encode, unusedZero, Opcode.format, Opcode.instr, Instr.mnemonic]
theorem rdg (p k : BitVec 4) : Statement (.rdg p k) := by
  simp [Statement, Instr.fields, encode, unusedZero, Opcode.format, Opcode.instr, Instr.mnemonic]
theorem rdcsr (i : BitVec 8) : Statement (.rdcsr i) := by
  simp [Statement, Instr.fields, encode, unusedZero, Opcode.format, Opcode.instr, Instr.mnemonic]
theorem wrcsr (i : BitVec 8) (v : BitVec 16) : Statement (.wrcsr i v) := by
  simp [Statement, Instr.fields, encode, unusedZero, Opcode.format, Opcode.instr, Instr.mnemonic]
theorem clrms : Statement .clrms := by
  simp [Statement, Instr.fields, encode, unusedZero, Opcode.format, Opcode.instr, Instr.mnemonic]
theorem clrdb : Statement .clrdb := by
  simp [Statement, Instr.fields, encode, unusedZero, Opcode.format, Opcode.instr, Instr.mnemonic]
theorem compose : Statement .compose := by
  simp [Statement, Instr.fields, encode, unusedZero, Opcode.format, Opcode.instr, Instr.mnemonic]
theorem glyphs : Statement .glyphs := by
  simp [Statement, Instr.fields, encode, unusedZero, Opcode.format, Opcode.instr, Instr.mnemonic]
theorem preview : Statement .preview := by
  simp [Statement, Instr.fields, encode, unusedZero, Opcode.format, Opcode.instr, Instr.mnemonic]
theorem candesc : Statement .candesc := by
  simp [Statement, Instr.fields, encode, unusedZero, Opcode.format, Opcode.instr, Instr.mnemonic]
theorem canshl : Statement .canshl := by
  simp [Statement, Instr.fields, encode, unusedZero, Opcode.format, Opcode.instr, Instr.mnemonic]
theorem canshr : Statement .canshr := by
  simp [Statement, Instr.fields, encode, unusedZero, Opcode.format, Opcode.instr, Instr.mnemonic]
theorem shl : Statement .shl := by
  simp [Statement, Instr.fields, encode, unusedZero, Opcode.format, Opcode.instr, Instr.mnemonic]
theorem shr : Statement .shr := by
  simp [Statement, Instr.fields, encode, unusedZero, Opcode.format, Opcode.instr, Instr.mnemonic]
theorem desc (i : BitVec 8) : Statement (.desc i) := by
  simp [Statement, Instr.fields, encode, unusedZero, Opcode.format, Opcode.instr, Instr.mnemonic]
theorem lock : Statement .lock := by
  simp [Statement, Instr.fields, encode, unusedZero, Opcode.format, Opcode.instr, Instr.mnemonic]
theorem rot : Statement .rot := by
  simp [Statement, Instr.fields, encode, unusedZero, Opcode.format, Opcode.instr, Instr.mnemonic]
theorem isfull (i : BitVec 8) : Statement (.isfull i) := by
  simp [Statement, Instr.fields, encode, unusedZero, Opcode.format, Opcode.instr, Instr.mnemonic]
theorem lclr : Statement .lclr := by
  simp [Statement, Instr.fields, encode, unusedZero, Opcode.format, Opcode.instr, Instr.mnemonic]
theorem spawn (i : BitVec 8) : Statement (.spawn i) := by
  simp [Statement, Instr.fields, encode, unusedZero, Opcode.format, Opcode.instr, Instr.mnemonic]
theorem init (i : BitVec 8) : Statement (.init i) := by
  simp [Statement, Instr.fields, encode, unusedZero, Opcode.format, Opcode.instr, Instr.mnemonic]
theorem tick : Statement .tick := ⟨rfl, rfl⟩

end Sys2Proof.Laws.EncodesItsRow
end

