-- ==== Sys2Proof/Tests/Slice0.lean ====
section
/-! SUPPORT. The tests: ill-formed terms refused, a word of every row decoded, one step of every operation with a
result from `spec/95_test_vectors.md` or by hand from the cited rule, and a witness for the hypotheses of every
statement. The configuration is TC1 of that file; nothing follows from it about a board. -/

namespace Sys2Proof.Tests

open Sys2Proof Sys2Proof.Machine

set_option Elab.async false

/-! ## The test configuration and small boards -/

/-- `F3` of TC1. -/
def digitRows : List (List Nat) :=
  [[7, 5, 5, 5, 7], [2, 6, 2, 2, 7], [7, 1, 7, 4, 7], [7, 1, 7, 1, 7], [5, 5, 7, 1, 1]] ++
    [[7, 4, 7, 1, 7], [7, 4, 7, 5, 7], [7, 1, 1, 1, 1], [7, 5, 7, 5, 7], [7, 5, 7, 1, 7]]

/-- `SHAPE` of TC1. -/
def shapes : Vector (Row × Row) 7 :=
  #v[(0x0000#16, 0x0780#16), (0x0200#16, 0x0380#16), (0x0080#16, 0x0380#16), (0x0300#16, 0x0300#16),
    (0x0180#16, 0x0300#16), (0x0100#16, 0x0380#16), (0x0300#16, 0x0180#16)]

/-- TC1. -/
def tc1 : Config where
  spawnX := 8#4
  spawnY := 9#5
  shapeRow0 := 8
  shape := shapes
  previewShape := tabulate fun t => (shapes[t].1 >>> 6, shapes[t].2 >>> 6)
  previewRow0 := 6
  glyphRow0 := 1
  font := tabulate fun p => tabulate fun d => tabulate fun k =>
    BitVec.ofNat 16 ((digitRows[d.val]?.getD []).getD k.val 0) <<< (12 - 4 * p.val)
  tickPeriodNs := 1
  blinkTicks := 3

/-- The reset state of a TC1 board. -/
def start : State := State.afterReset tc1 [] [] 0

/-- A layer given by the rows that differ from `v`. -/
def layer (v : Nat → Row) (rows : List (Nat × Row)) : Rows :=
  tabulate fun i => (rows.lookup i.val).getD (v i.val)

/-- The walls of an empty board (R236). -/
def walls (i : Nat) : Row := if i < 8 then 0#16 else 0xC003#16

/-- No block. -/
def nothing (_ : Nat) : Row := 0#16

/-- The T piece as spawned after `INIT 5`, `SPAWN 2`. -/
def tPiece : State := { start with
  terrain := layer walls []
  active := layer nothing [(8, 0x0100#16), (9, 0x0380#16)]
  anchorX := 8#4, anchorY := 9#5, cur := 5, nextPiece := 2 }

/-- The I piece as spawned: horizontal. -/
def iPiece : State := { tPiece with active := layer nothing [(9, 0x0780#16)], cur := 0, nextPiece := 0 }

/-- The halted board. -/
def halted : State := { start with halt := true }

/-- The outcome is a next state with the property. -/
def goesTo (o : Result) (p : State → Bool) : Bool :=
  match o with
  | .next t => p t
  | .fault _ | .refused _ => false

/-- The next state of an outcome. -/
def nextOf (o : Result) : State :=
  match o with
  | .next t => t
  | .fault _ | .refused _ => start

theorem next_of {o : Result} (h : goesTo o (fun _ => true) = true) : o = .next (nextOf o) := by
  cases o with
  | next t => rfl
  | fault f => cases h
  | refused r => cases h

/-- The response of the state reached. -/
def answers (o : Result) (err : Bool) (v : Nat) : Bool := goesTo o fun t => t.resp == some ⟨err, BitVec.ofNat 32 v⟩

/-! ## Well-formedness: an ill-formed term for each check (R93, R37) -/

theorem test_illformed_wrt : (Instr.wrt 32#8 0#16).wf = false := by decide +kernel
theorem test_illformed_rdt : (Instr.rdt 32#8).wf = false := by decide +kernel
theorem test_illformed_wra : (Instr.wra 32#8 0#16).wf = false := by decide +kernel
theorem test_illformed_rda : (Instr.rda 32#8).wf = false := by decide +kernel
theorem test_illformed_wrf : (Instr.wrf 32#8 0#16).wf = false := by decide +kernel
theorem test_illformed_rdf : (Instr.rdf 32#8).wf = false := by decide +kernel
theorem test_illformed_isfull : (Instr.isfull 32#8).wf = false := by decide +kernel
theorem test_illformed_wrp : (Instr.wrp 2#8 0#16).wf = false := by decide +kernel
theorem test_illformed_rdp : (Instr.rdp 2#8).wf = false := by decide +kernel
theorem test_illformed_wrg_place : (Instr.wrg 3#4 0#4 0#16).wf = false := by decide +kernel
theorem test_illformed_wrg_row : (Instr.wrg 0#4 5#4 0#16).wf = false := by decide +kernel
theorem test_illformed_rdg_place : (Instr.rdg 3#4 0#4).wf = false := by decide +kernel
theorem test_illformed_rdg_row : (Instr.rdg 0#4 5#4).wf = false := by decide +kernel
theorem test_illformed_rdcsr : (Instr.rdcsr 0x0B#8).wf = false := by decide +kernel
theorem test_illformed_wrcsr_read_only : (Instr.wrcsr 0x00#8 1#16).wf = false := by decide +kernel
theorem test_illformed_wrcsr_anchor_x : (Instr.wrcsr 0x06#8 16#16).wf = false := by decide +kernel
theorem test_illformed_wrcsr_anchor_y : (Instr.wrcsr 0x07#8 32#16).wf = false := by decide +kernel
theorem test_illformed_wrcsr_cur : (Instr.wrcsr 0x08#8 7#16).wf = false := by decide +kernel
theorem test_illformed_wrcsr_next : (Instr.wrcsr 0x09#8 7#16).wf = false := by decide +kernel
theorem test_illformed_desc : (Instr.desc 7#8).wf = false := by decide +kernel
theorem test_illformed_spawn : (Instr.spawn 7#8).wf = false := by decide +kernel
theorem test_illformed_init : (Instr.init 7#8).wf = false := by decide +kernel
theorem test_wellformed_bounds :
    (Instr.wrt 31#8 0xFFFF#16).wf = true ∧ (Instr.wrg 2#4 4#4 0#16).wf = true ∧
    (Instr.wrcsr 0x07#8 31#16).wf = true ∧ (Instr.desc 6#8).wf = true := by decide +kernel

/-! ## Decoding: a word of every row, written out from R90 to R93 and R98, and the words R94 and the vectors of 3.2
reject -/

theorem test_decode_nop : decodeTableWord 32 0x00000000 = some .nop := by decide +kernel
theorem test_decode_wrt : decodeTableWord 32 0x101FFFFF = some (.wrt 31#8 0xFFFF#16) := by decide +kernel
theorem test_decode_rdt : decodeTableWord 32 0x111F0000 = some (.rdt 31#8) := by decide +kernel
theorem test_decode_wra : decodeTableWord 32 0x12090380 = some (.wra 9#8 0x0380#16) := by decide +kernel
theorem test_decode_rda : decodeTableWord 32 0x13090000 = some (.rda 9#8) := by decide +kernel
theorem test_decode_wrf : decodeTableWord 32 0x1405000F = some (.wrf 5#8 0x000F#16) := by decide +kernel
theorem test_decode_rdf : decodeTableWord 32 0x15050000 = some (.rdf 5#8) := by decide +kernel
theorem test_decode_wrp : decodeTableWord 32 0x1601000E = some (.wrp 1#8 0x000E#16) := by decide +kernel
theorem test_decode_rdp : decodeTableWord 32 0x17010000 = some (.rdp 1#8) := by decide +kernel
theorem test_decode_wrg : decodeTableWord 32 0x18240070 = some (.wrg 2#4 4#4 0x0070#16) := by decide +kernel
theorem test_decode_rdg : decodeTableWord 32 0x19240000 = some (.rdg 2#4 4#4) := by decide +kernel
theorem test_decode_rdcsr : decodeTableWord 32 0x20040000 = some (.rdcsr 0x04#8) := by decide +kernel
theorem test_decode_wrcsr : decodeTableWord 32 0x21040063 = some (.wrcsr 0x04#8 99#16) := by decide +kernel
theorem test_decode_clrms : decodeTableWord 32 0x22000000 = some .clrms := by decide +kernel
theorem test_decode_clrdb : decodeTableWord 32 0x23000000 = some .clrdb := by decide +kernel
theorem test_decode_compose : decodeTableWord 32 0x30000000 = some .compose := by decide +kernel
theorem test_decode_glyphs : decodeTableWord 32 0x31000000 = some .glyphs := by decide +kernel
theorem test_decode_preview : decodeTableWord 32 0x32000000 = some .preview := by decide +kernel
theorem test_decode_candesc : decodeTableWord 32 0x40000000 = some .candesc := by decide +kernel
theorem test_decode_canshl : decodeTableWord 32 0x41000000 = some .canshl := by decide +kernel
theorem test_decode_canshr : decodeTableWord 32 0x42000000 = some .canshr := by decide +kernel
theorem test_decode_shl : decodeTableWord 32 0x43000000 = some .shl := by decide +kernel
theorem test_decode_shr : decodeTableWord 32 0x44000000 = some .shr := by decide +kernel
theorem test_decode_desc : decodeTableWord 32 0x45030000 = some (.desc 3#8) := by decide +kernel
theorem test_decode_lock : decodeTableWord 32 0x46000000 = some .lock := by decide +kernel
theorem test_decode_rot : decodeTableWord 32 0x50000000 = some .rot := by decide +kernel
theorem test_decode_isfull : decodeTableWord 32 0x601F0000 = some (.isfull 31#8) := by decide +kernel
theorem test_decode_lclr : decodeTableWord 32 0x61000000 = some .lclr := by decide +kernel
theorem test_decode_spawn : decodeTableWord 32 0x70020000 = some (.spawn 2#8) := by decide +kernel
theorem test_decode_init : decodeTableWord 32 0x71050000 = some (.init 5#8) := by decide +kernel
theorem test_decode_tick : decodeTableWord 1 1 = some .tick ∧ decodeTableWord 8 1 = some .tick := by decide +kernel
theorem test_decode_rejects_reserved_op :
    decodeCommand 0x01000000#32 = .rejected .reservedOpcode ∧
    decodeCommand 0xFF000000#32 = .rejected .reservedOpcode := by decide +kernel
theorem test_decode_rejects_unused_field :
    decodeCommand 0x00010000#32 = .rejected .unusedFieldNotZero ∧
    decodeCommand 0x11080001#32 = .rejected .unusedFieldNotZero ∧
    decodeCommand 0x30000001#32 = .rejected .unusedFieldNotZero := by decide +kernel
theorem test_pseudo :
    Pseudo.expand .canshiftL = .canshl ∧ Pseudo.expand .rdscore = .rdcsr 0x04#8 := by decide +kernel
theorem test_assembly :
    (Instr.wrg 2#4 4#4 112#16).assembly = "WRG 2, 4, 112" ∧ Instr.tick.assembly = "TICK" := by decide +kernel

/-! ## A table row's bits presented after reset: the very next step runs it (R98) -/

theorem test_first_step_nop : answers (step (State.reset.withFetchWord 32 0x00000000)) false 0 := by decide +kernel
theorem test_first_step_init :
    goesTo (step (State.reset.withFetchWord 32 0x71050000)) fun t => t.cur == 5 && t.cont == composeAndRespond := by decide +kernel
theorem test_first_step_tick :
    goesTo (step (State.reset.withFetchWord 1 1)) fun t => t.scan == 1#5 && t.msTick == 1 := by decide +kernel
/-- 3.2 -/
theorem test_illegal_word_running : answers (issueWord 0xFF000000#32 start) true 1 := by decide +kernel
/-- 3.2, `HALT = 1` -/
theorem test_illegal_word_halted :
    answers (issueWord 0xFF000000#32 halted) true 3 ∧ answers (issueWord 0x00010000#32 halted) true 1 := by decide +kernel

/-! ## One step of each operation -/

/-- 3.2 -/
theorem test_nop : answers (exec .nop halted) false 0 := by decide +kernel
/-- 3.2 -/
theorem test_wrt :
    goesTo (exec (.wrt 31#8 0xFFFF#16) start) fun t => t.terrain[31] == 0xFFFF#16 && t.terrain[30] == 0#16 := by decide +kernel
/-- 3.2 -/
theorem test_wrt_range : answers (exec (.wrt 32#8 0xFFFF#16) start) true 2 := by decide +kernel
/-- 3.2 -/
theorem test_rdt :
    answers (exec (.rdt 8#8) { halted with terrain := layer walls [] }) false 0xC003 := by decide +kernel
/-- A1 -/
theorem test_wra :
    goesTo (exec (.wra 9#8 0x0380#16) start) fun t => t.active[9] == 0x0380#16 && t.frame[9] == 0#16 := by decide +kernel
/-- A1 -/
theorem test_rda : answers (exec (.rda 9#8) tPiece) false 0x0380 := by decide +kernel
/-- A2 -/
theorem test_wrf :
    goesTo (exec (.wrf 5#8 0x000F#16) start) fun t => t.frame[5] == 0x000F#16 && t.terrain[5] == 0#16 := by decide +kernel
/-- A2: the stored row, not its complement -/
theorem test_rdf :
    answers (exec (.rdf 5#8) { start with frame := layer nothing [(5, 0x000F#16)] }) false 0x000F := by decide +kernel
/-- A3 -/
theorem test_wrp :
    goesTo (exec (.wrp 1#8 0x000E#16) start) fun t => t.preview[1] == 0x000E#16 && t.preview[0] == 0#16 := by decide +kernel
/-- A3 -/
theorem test_rdp :
    answers (exec (.rdp 1#8) { start with preview := #v[1#16, 0x000E#16] }) false 0x000E := by decide +kernel
/-- A4 -/
theorem test_wrg :
    goesTo (exec (.wrg 2#4 4#4 0x0070#16) start) fun t => t.glyph[2][4] == 0x0070#16 && t.glyph[2][3] == 0#16 := by decide +kernel
/-- A4 -/
theorem test_rdg : answers (exec (.rdg 2#4 4#4) (start.setGlyph 2 4 0x0070#16)) false 0x0070 := by decide +kernel
/-- R29: 34 is above the bound -/
theorem test_rdcsr_level :
    answers (exec (.rdcsr 0x05#8) { start with score := 34 }) false 99 := by decide +kernel
/-- R30, 3.3 -/
theorem test_rdcsr_digits :
    answers (exec (.rdcsr 0x0A#8) { start with score := 65535 }) false 0x535 := by decide +kernel
/-- A7 -/
theorem test_wrcsr :
    goesTo (exec (.wrcsr 0x04#8 99#16) start) fun t => t.score == 99 && t.glyph == start.glyph := by decide +kernel
/-- 3.2: the halt check comes first -/
theorem test_wrcsr_halted : answers (exec (.wrcsr 0x00#8 0#16) halted) true 3 := by decide +kernel
/-- A6 -/
theorem test_clrms :
    goesTo (exec .clrms { start with msTick := 3, debTick := 3 }) fun t => t.msTick == 0 && t.debTick == 3 := by decide +kernel
/-- A6 -/
theorem test_clrdb :
    goesTo (exec .clrdb { start with msTick := 3, debTick := 3 }) fun t => t.debTick == 0 && t.msTick == 3 := by decide +kernel
/-- R198: 39 row writes and the response follow -/
theorem test_compose :
    goesTo (exec .compose tPiece) fun t => t.cont.length == 40 && t.resp == none && t.frame == tPiece.frame := by decide +kernel
/-- F2, the base write of row 9 -/
theorem test_compose_base_row :
    goesTo (move .host { tPiece with cont := composeMicros.drop 9 }) fun t => t.frame[9] == 0xC383#16 := by decide +kernel
/-- F1 -/
theorem test_glyphs :
    goesTo (exec .glyphs { start with score := 123 }) fun t =>
      t.glyph == #v[#v[0x2000#16, 0x6000#16, 0x2000#16, 0x2000#16, 0x7000#16],
        #v[0x0700#16, 0x0100#16, 0x0700#16, 0x0400#16, 0x0700#16],
        #v[0x0070#16, 0x0010#16, 0x0070#16, 0x0010#16, 0x0070#16]] := by decide +kernel
/-- F5 -/
theorem test_preview :
    goesTo (exec .preview { start with nextPiece := 2 }) fun t => t.preview == #v[0x0002#16, 0x000E#16] := by decide +kernel
/-- M1 -/
theorem test_candesc : answers (exec .candesc tPiece) false 1 := by decide +kernel
/-- M13 -/
theorem test_candesc_blocked :
    answers (exec .candesc { tPiece with terrain := layer nothing [(10, 0xC103#16)] }) false 0 := by decide +kernel
/-- M15: row 20 is outside the footprint -/
theorem test_canshl :
    answers (exec .canshl { tPiece with
      active := layer nothing [(20, 0x3000#16)], terrain := layer nothing [(20, 0xC003#16)] }) false 1 := by decide +kernel
/-- M3 -/
theorem test_canshl_blocked :
    answers (exec .canshl { tPiece with active := layer nothing [(9, 0x3800#16)] }) false 0 := by decide +kernel
/-- M1 -/
theorem test_canshr : answers (exec .canshr tPiece) false 1 := by decide +kernel
/-- M14 -/
theorem test_canshr_blocked :
    answers (exec .canshr { tPiece with active := layer nothing [(9, 0x000C#16)] }) false 0 := by decide +kernel
/-- M2 -/
theorem test_shl :
    goesTo (exec .shl tPiece) fun t => t.anchorX == 9#4 && t.active == layer nothing [(8, 0x0200#16), (9, 0x0700#16)] := by decide +kernel
/-- M10 -/
theorem test_shl_at_15 :
    answers (exec .shl { start with anchorX := 15#4, anchorY := 9#5 }) true 5 := by decide +kernel
/-- R146 -/
theorem test_shr :
    goesTo (exec .shr tPiece) fun t => t.anchorX == 7#4 && t.active == layer nothing [(8, 0x0080#16), (9, 0x01C0#16)] := by decide +kernel
/-- M11 -/
theorem test_shr_at_0 : answers (exec .shr start) true 5 := by decide +kernel
/-- M5, at x = 8 -/
theorem test_desc :
    goesTo (exec (.desc 0#8) tPiece) fun t =>
      t.anchorY == 10#5 && t.active == layer nothing [(9, 0x0100#16), (10, 0x0380#16)] := by decide +kernel
/-- M7 -/
theorem test_desc_locks :
    goesTo (exec (.desc 3#8) { tPiece with
      active := layer nothing [(30, 0x0800#16), (31, 0x1C00#16)], anchorX := 11#4, anchorY := 31#5 }) fun t =>
      t.terrain == layer walls [(30, 0xC803#16), (31, 0xDC03#16)] && t.cur == 2 && t.nextPiece == 3 &&
        t.active == layer nothing [(8, 0x0080#16), (9, 0x0380#16)] && t.anchorY == 9#5 &&
        t.preview == #v[0x000C#16, 0x000C#16] := by decide +kernel
/-- M8 -/
theorem test_lock :
    goesTo (exec .lock { start with
      terrain := layer nothing [(31, 0xC003#16)], active := layer nothing [(31, 0x3800#16)] }) fun t =>
      t.terrain[31] == 0xF803#16 && t.active[31] == 0x3800#16 := by decide +kernel
/-- T5: the rest of row 9 is lost -/
theorem test_rot :
    goesTo (exec .rot { tPiece with active := layer nothing [(9, 0x1384#16)] }) fun t =>
      t.active == layer nothing [(8, 0x0100#16), (9, 0x0100#16), (10, 0x0100#16)] := by decide +kernel
/-- T6 -/
theorem test_rot_toggle :
    goesTo (exec .rot iPiece) fun t =>
      t.active == layer nothing [(8, 0x0100#16), (9, 0x0100#16), (10, 0x0100#16), (11, 0x0100#16)] := by decide +kernel
/-- C1 -/
theorem test_isfull :
    answers (exec (.isfull 31#8) { start with terrain := layer walls [(31, 0xFFFF#16)] }) false 1 := by decide +kernel
/-- C5: all 16 bits are compared -/
theorem test_isfull_no_walls :
    answers (exec (.isfull 31#8) { start with terrain := layer walls [(31, 0x3FFC#16)] }) false 0 := by decide +kernel
/-- C2 -/
theorem test_lclr :
    goesTo (exec .lclr { start with
      terrain := layer walls [(27, 0xC103#16), (28, 0xFFFF#16), (29, 0xE007#16), (30, 0xFFFF#16), (31, 0xFFFF#16)] })
      fun t => t.score == 3 && t.terrain == layer walls [(30, 0xC103#16), (31, 0xE007#16)] := by decide +kernel
/-- C5 -/
theorem test_lclr_outside :
    goesTo (exec .lclr { start with terrain := layer walls [(5, 0xFFFF#16), (31, 0x3FFC#16)] }) fun t =>
      t.score == 0 && t.terrain == layer walls [(5, 0xFFFF#16), (31, 0x3FFC#16)] := by decide +kernel
/-- G2 -/
theorem test_spawn :
    goesTo (exec (.spawn 2#8) { tPiece with active := layer nothing [], nextPiece := 5 }) fun t =>
      t.active == tPiece.active && t.cur == 5 && t.nextPiece == 2 && t.preview == #v[0x0002#16, 0x000E#16] := by decide +kernel
/-- G3: Game Over begins -/
theorem test_spawn_blocked :
    goesTo (exec (.spawn 2#8) { tPiece with
      active := layer nothing [], terrain := layer walls [(9, 0xC103#16)], nextPiece := 5 }) fun t =>
      t.cont.length == 382 && t.active == layer nothing [] && t.cur == 5 && t.anchorX == 8#4 := by decide +kernel
/-- G1 -/
theorem test_init :
    goesTo (exec (.init 5#8) start) fun t =>
      t.terrain == layer walls [] && t.cur == 5 && t.nextPiece == 5 && t.anchorX == 8#4 && t.anchorY == 9#5 &&
        t.glyph[0] == #v[0x7000#16, 0x5000#16, 0x5000#16, 0x5000#16, 0x7000#16] := by decide +kernel
/-- S1, L1 -/
theorem test_tick :
    goesTo (exec .tick { start with
      scan := 5#5, frame := layer nothing [(5, 0x000F#16)], msTick := 5, debTick := 5, sr := 0x123456789ABC#48 }) fun t =>
      t.sr == 0xFFF004000000#48 && t.out == 0xFFF004000000#48 && t.scan == 6#5 && t.msTick == 6 && t.debTick == 6 := by decide +kernel
/-- S2, S5, S7 -/
theorem test_tick_wraps :
    goesTo (exec .tick { halted with
      scan := 31#5, frame := layer nothing [(31, 0xC003#16)], msTick := 0xFFFFFFFF, sr := 0#48 }) fun t =>
      t.out == 0x3FFC00000001#48 && t.scan == 0#5 && t.msTick == 0 && t.halt := by decide +kernel
/-- S1: the bytes in order, and the chain after the third -/
theorem test_serial_bytes :
    serialBytes { start with scan := 5#5, frame := layer nothing [(5, 0x000F#16)] } =
      [0xFF#8, 0xF0#8, 0x04#8, 0x00#8, 0x00#8, 0x00#8] ∧ sendBytes tc1 0#48 [0xFF#8, 0xF0#8, 0x04#8] = 0x000000FFF004#48 := by decide +kernel

/-! ## Witnesses: for every statement with hypotheses, states and operands that meet them all, each clause at a bound of its
range -/

/-- A well-formed configuration with the decided values: TC1 (R293). -/
theorem witness_config : tc1.wf = true ∧ tc1.Decided ∧ tc1.wallMask ≠ tc1.complete := by
  refine ⟨by decide +kernel, ⟨rfl, rfl, rfl, rfl, rfl, rfl, rfl, rfl, rfl, rfl, rfl⟩, by decide +kernel⟩

theorem witness_EncodeOfDecodedWordIsTheWord :
    decodeCommand 0x10FFFFFF#32 = .ok (.wrt 0xFF#8 0xFFFF#16) ∧ decodeCommand 0x00000000#32 = .ok .nop := by decide +kernel

theorem witness_ReservedWordsAreRejectedByName :
    (∀ o : Opcode, opField 0x01000000#32 ≠ o.code) ∧
    (opField 0x30000001#32 = Opcode.compose.code ∧ Opcode.compose.format = .n ∧ dField 0x30000001#32 ≠ 0#16) ∧
    (opField 0x00010000#32 = Opcode.nop.code ∧ Opcode.nop.format = .n ∧ aField 0x00010000#32 ≠ 0#8) ∧
    (opField 0x11080001#32 = Opcode.rdt.code ∧ Opcode.rdt.format = .a ∧ dField 0x11080001#32 ≠ 0#16) := by
  refine ⟨fun o => ?_, by decide, by decide, by decide⟩
  cases o <;> decide

/-- The next turn scheduled; none scheduled; an idle turn of the HOST agent. -/
theorem witness_StepMovesTheScheduledAgent :
    { start with sched := [.tick] }.sched = .tick :: [] ∧ start.sched = [] ∧
    ({ start with sched := [.host] }.sched = .host :: [] ∧ start.cont = [] ∧ start.port = []) :=
  ⟨rfl, rfl, rfl, rfl, rfl⟩

/-- A command presented to the idle HOST agent. -/
def presented : State := { start with port := [0x71060000#32], sched := [.host] }

theorem witness_StepRunsTheDecodedInstruction :
    presented.sched = .host :: [] ∧ presented.cont = [] ∧ presented.port = 0x71060000#32 :: [] ∧
      decodeCommand 0x71060000#32 = .ok (.init 6#8) := ⟨rfl, rfl, rfl, by decide +kernel⟩

theorem witness_PresentedSelectionRunsNext : decodeTableWord 32 0x71060000 = some (.init 6#8) := by decide +kernel

/-- Each of the two codes: running, halted with an `op` that is not a read command's. -/
theorem witness_IllegalWordIsRefusedAndNothingChanges :
    (let s := { start with port := [0x00010000#32], sched := [.host] }
     s.sched = .host :: [] ∧ s.cont = [] ∧ s.port = 0x00010000#32 :: [] ∧
      decodeCommand 0x00010000#32 = .rejected .unusedFieldNotZero ∧ s.halt = false) ∧
    (let s := { halted with port := [0xFF000000#32], sched := [.host] }
     s.sched = .host :: [] ∧ s.cont = [] ∧ s.port = 0xFF000000#32 :: [] ∧
      decodeCommand 0xFF000000#32 = .rejected .reservedOpcode ∧ s.halt = true ∧ readsOnly 0xFF000000#32 = false) := by
  refine ⟨⟨rfl, rfl, rfl, by decide +kernel, rfl⟩, rfl, rfl, rfl, by decide +kernel, rfl, by decide +kernel⟩

/-- A machine with nothing at its port never stops. -/
theorem run_of_idle (k : Nat) : ∀ s : State, s.cont = [] → s.port = [] → ∃ t, Sys2Proof.core.run k s = .next t := by
  induction k with
  | zero => exact fun s _ _ => ⟨s, rfl⟩
  | succ k ih =>
    intro s hc hp
    have hs : ∃ u, step s = .next u ∧ u.cont = [] ∧ u.port = [] := by
      have e := takeTurn_state s
      have hc' : (takeTurn s).2.cont = [] := by rw [e]; exact hc
      have hp' : (takeTurn s).2.port = [] := by rw [e]; exact hp
      unfold step
      cases (takeTurn s).1 with
      | tick => exact ⟨_, rfl, hc', hp'⟩
      | reset => exact ⟨_, rfl, rfl, hp'⟩
      | host => exact ⟨_, hostMove_idle hc' hp', hc', hp'⟩
    obtain ⟨u, hu, h1, h2⟩ := hs
    obtain ⟨t, ht⟩ := ih u h1 h2
    refine ⟨t, ?_⟩
    have hu' : Sys2Proof.core.step s = .next u := hu
    simp only [Host.Core.run, hu']
    exact ht

theorem witness_TickTurnsKeepComing : ∀ k : Nat, ∃ t, Sys2Proof.core.run k start = .next t :=
  fun k => run_of_idle k start rfl rfl

theorem witness_EveryStepAnswersANextState : presented.cfg.wallMask ≠ presented.cfg.complete := witness_config.2.2

theorem witness_ExternalResetRestoresResetValues : { presented with sched := [.reset] }.sched = .reset :: [] := rfl

theorem witness_RowAccess : (31#8).toNat < 32 ∧ (0#8).toNat < 32 ∧ start.halt = false := by decide +kernel

theorem witness_OverlayBufferAccess :
    (1#8).toNat < 2 ∧ (2#4).toNat < 3 ∧ (4#4).toNat < 5 ∧ start.halt = false := by decide +kernel

/-- The bounds of each range; a read command under `HALT` (3.2), a write not halted. -/
theorem witness_OutOfRangeOperandIsRefused :
    (31 < (32#8).toNat ∧ 1 < (2#8).toNat ∧ (2 < (3#4).toNat ∨ 4 < (0#4).toNat) ∧ (2 < (0#4).toNat ∨ 4 < (5#4).toNat) ∧
      6 < (7#8).toNat) ∧ halted.halt = true ∧ start.halt = false := by decide +kernel

theorem witness_HaltedCommandsAreRefused :
    halted.halt = true ∧ (Instr.wrt 32#8 1#16).fields = some (.wrt, 32#8, 1#16) ∧ Opcode.wrt.isRead = false := by
  decide +kernel

theorem witness_ReadCommandsWriteNoState :
    (Instr.rdt 32#8).fields = some (.rdt, 32#8, 0#16) ∧ Opcode.rdt.isRead = true := by decide +kernel

/-- The reserved numbers begin at 0x0B. -/
theorem witness_CsrReadValues : 0x0A < (0x0B#8).toNat := by decide

/-- Each clause: the read-only and reserved numbers at their bounds, the values on either side of each range; a
`SCORE` of 16 bits and one of 8. -/
theorem witness_CsrWriteEffects :
    start.halt = false ∧ (3#8).toNat ≤ 3 ∧ 0x0A ≤ (0x0A#8).toNat ∧
      15 < (16#16).toNat ∧ (15#16).toNat ≤ 15 ∧ 31 < (32#16).toNat ∧ (31#16).toNat ≤ 31 ∧ 6 < (7#16).toNat ∧
      (6#16).toNat < 7 ∧ start.cfg.scoreW = 16 ∧
    (let s := { start with cfg := { tc1 with scoreW := 8 } }
     s.halt = false ∧ (255#16).toNat < 2 ^ s.cfg.scoreW ∧ 2 ^ s.cfg.scoreW ≤ (256#16).toNat) := by decide +kernel

theorem witness_NopAndCounterClears : start.halt = false ∧ tPiece.halt = false := ⟨rfl, rfl⟩

theorem witness_GlyphsAndPreviewAreDrawn : tPiece.halt = false := rfl

/-- 40 moves of the HOST agent with a tick before and one after them. -/
def forty : List Turn := .tick :: (List.replicate 40 Turn.host ++ [.tick])

/-- A board with a composition to perform. -/
def composing : State := { tPiece with cont := composeAndRespond }

theorem witness_PendingComposeEndsInTheComposedFrame :
    composing.cont = composeAndRespond ++ [] ∧ Turn.reset ∉ forty ∧ forty.count .host = 40 := by decide +kernel

theorem witness_ComposeBuildsTheFrame :
    tPiece.halt = false ∧ Turn.reset ∉ forty ∧ forty.count .host = 40 := by decide +kernel

/-- A tick after the base write of row 0. -/
theorem witness_TornFrameRowIsOneOfFourValues :
    ∃ t, composing.cont = composeAndRespond ++ [] ∧ Turn.reset ∉ [Turn.host, .tick] ∧
      [Turn.host, .tick].count .host ≤ 40 ∧ runTurns [.host, .tick] composing = .next t :=
  ⟨_, rfl, by decide, by decide, next_of (by decide +kernel)⟩

theorem witness_ComposeIsIdempotent :
    ∃ t u v t', tPiece.halt = false ∧ tPiece.cont = [] ∧ Turn.reset ∉ forty ∧ forty.count .host = 40 ∧
      exec .compose tPiece = .next t ∧ runTurns forty t = .next u ∧ exec .compose u = .next t' ∧
      runTurns forty t' = .next v :=
  ⟨_, _, _, _, rfl, rfl, by decide, by decide, rfl, next_of (by decide +kernel), next_of (by decide +kernel),
    next_of (by decide +kernel)⟩

/-- A piece that can descend; one in the lowest row; one above a block. -/
theorem witness_CanDescendTest :
    (tPiece.active[31] = 0#16 ∧ ∀ i : Fin 31, tPiece.active[i.val] &&& tPiece.terrain[i.val + 1] = 0#16) ∧
    (layer nothing [(31, 0x0100#16)])[31] ≠ 0#16 ∧
    (layer nothing [(30, 0x0100#16)])[30] &&& (layer walls [(31, 0xC103#16)])[31] ≠ 0#16 := by decide +kernel

/-- A block beside the piece in the last row of the footprint, on the left and on the right. -/
def besideLeft : State := { tPiece with active := layer nothing [(11, 0x2000#16)] }
def besideRight : State := { tPiece with active := layer nothing [(11, 0x0004#16)] }

theorem witness_CanShiftTests :
    (∀ r : Fin 32, tPiece.anchorY.toNat ≤ r.val + 2 → r.val ≤ tPiece.anchorY.toNat + 2 →
      tPiece.active[r] <<< 1 &&& tPiece.terrain[r] = 0#16 ∧ tPiece.active[r] >>> 1 &&& tPiece.terrain[r] = 0#16) ∧
    ((11 : Fin 32).val ≤ besideLeft.anchorY.toNat + besideLeft.cfg.footDn ∧
      besideLeft.active[11] <<< 1 &&& besideLeft.terrain[11] ≠ 0#16) ∧
    ((11 : Fin 32).val ≤ besideRight.anchorY.toNat + besideRight.cfg.footDn ∧
      besideRight.active[11] >>> 1 &&& besideRight.terrain[11] ≠ 0#16) := by decide +kernel

theorem played_one {w : CmdWord} (h : playedWord w = true) : ∀ x ∈ [w], playedWord x = true := by
  intro x hx
  rw [List.mem_singleton.mp hx]
  exact h

/-- What the collision tester answers, from the predicate. -/
theorem candesc_is {s : State} {b : Bool} (h : canDescend s = b) :
    exec .candesc s = .next { s with resp := ranWith (if b then 1#32 else 0#32) } := by
  subst h
  rfl

/-- A block beside the piece; none, at the last column and next to it. -/
theorem witness_ShiftLeftEffect :
    (besideLeft.halt = false ∧ besideLeft.anchorY.toNat ≤ (11 : Fin 32).val + besideLeft.cfg.footUp ∧
      (11 : Fin 32).val ≤ besideLeft.anchorY.toNat + besideLeft.cfg.footDn ∧
      besideLeft.active[11] <<< 1 &&& besideLeft.terrain[11] ≠ 0#16) ∧
    ∀ x : BitVec 4, x = 15#4 ∨ x = 14#4 →
      { start with anchorX := x }.halt = false ∧ ∀ r : Fin 32, start.active[r] <<< 1 &&& start.terrain[r] = 0#16 :=
  ⟨by decide +kernel, fun _ _ => ⟨rfl, by decide +kernel⟩⟩

theorem witness_ShiftRightEffect :
    (besideRight.halt = false ∧ besideRight.anchorY.toNat ≤ (11 : Fin 32).val + besideRight.cfg.footUp ∧
      (11 : Fin 32).val ≤ besideRight.anchorY.toNat + besideRight.cfg.footDn ∧
      besideRight.active[11] >>> 1 &&& besideRight.terrain[11] ≠ 0#16) ∧
    ∀ x : BitVec 4, x = 0#4 ∨ x = 1#4 →
      { start with anchorX := x }.halt = false ∧ ∀ r : Fin 32, start.active[r] >>> 1 &&& start.terrain[r] = 0#16 :=
  ⟨by decide +kernel, fun _ _ => ⟨rfl, by decide +kernel⟩⟩

/-- The state after the composition of the first command. -/
def composed (o : Result) : State := nextOf (runTurns forty (nextOf o))

/-- Composing changes nothing that the movement commands read. -/
theorem samePiece_of {s t : State} (hc : t.cfg = s.cfg)
    (h : (t.terrain == s.terrain && t.active == s.active && t.anchorX == s.anchorX && t.anchorY == s.anchorY &&
      t.cur == s.cur && t.halt == s.halt) = true) : SamePiece s t := by
  simp only [Bool.and_eq_true, beq_iff_eq] at h
  obtain ⟨⟨⟨⟨⟨h1, h2⟩, h3⟩, h4⟩, h5⟩, h6⟩ := h
  exact ⟨hc, h1, h2, h3, h4, h5, h6⟩

theorem witness_ShiftLeftThenRightRestores :
    ∃ t t' u, tPiece.halt = false ∧
      (∀ r : Fin 32, inFoot tPiece.cfg tPiece.anchorY r = true → tPiece.active[r].getLsbD 15 = false) ∧
      exec .shl tPiece = .next t ∧ t.resp = none ∧ SamePiece t t' ∧ exec .shr t' = .next u ∧ u.resp = none :=
  ⟨nextOf (exec .shl tPiece), composed (exec .shl tPiece), _, rfl, by decide +kernel, next_of (by decide +kernel),
    by decide +kernel, samePiece_of (by decide +kernel) (by decide +kernel), next_of (by decide +kernel),
    by decide +kernel⟩

theorem witness_LockMergesTheLayers : tPiece.halt = false := rfl

/-- The last row of the anchor, and the row above it. -/
theorem witness_DescendShiftPath :
    ∀ y : BitVec 5, y = 31#5 ∨ y = 30#5 →
      { start with anchorY := y }.halt = false ∧ (6#8).toNat ≤ 6 ∧ start.active[31] = 0#16 ∧
        ∀ i : Fin 31, start.active[i.val] &&& start.terrain[i.val + 1] = 0#16 :=
  fun _ _ => ⟨rfl, by decide, by decide +kernel, by decide +kernel⟩

/-- A piece on the lowest row, over a row that its lock completes. -/
def landed : State := { tPiece with
  terrain := layer walls [(31, 0xFC7F#16)], active := layer nothing [(30, 0x0100#16), (31, 0x0380#16)], anchorY := 31#5 }

theorem witness_DescendLockPathIsLockClearSpawn :
    landed.halt = false ∧ (6#8).toNat ≤ 6 ∧ landed.cfg.wallMask ≠ landed.cfg.complete ∧
      ¬(landed.active[31] = 0#16 ∧ ∀ i : Fin 31, landed.active[i.val] &&& landed.terrain[i.val + 1] = 0#16) ∧
    tPiece.active[31] = 0#16 ∧ (layer nothing [(30, 0x0100#16)])[30] &&& (layer walls [(31, 0xC103#16)])[31] ≠ 0#16 := by
  decide +kernel

/-- Each of the five moves. -/
theorem witness_MovesPreserveLayerExclusion :
    LayerExclusion tPiece ∧ exec .candesc tPiece = .next { tPiece with resp := ranWith 1#32 } ∧
      (∃ t, exec .shl tPiece = .next t) ∧ (∃ t, exec .shr tPiece = .next t) ∧ (∃ t, exec .rot tPiece = .next t) ∧
      (∃ t, exec (.spawn 6#8) tPiece = .next t) ∧ ∃ t, exec (.desc 6#8) tPiece = .next t :=
  ⟨by decide +kernel, candesc_is (b := true) (by decide +kernel), ⟨_, next_of (by decide +kernel)⟩,
    ⟨_, next_of (by decide +kernel)⟩, ⟨_, next_of (by decide +kernel)⟩, ⟨_, next_of (by decide +kernel)⟩,
    ⟨_, next_of (by decide +kernel)⟩⟩

theorem witness_PlayedSessionKeepsLayersApart :
    ∃ t, Playing { tPiece with port := [0x45060000#32], sched := [.host] } ∧
      step { tPiece with port := [0x45060000#32], sched := [.host] } = .next t :=
  ⟨_, ⟨witness_config.1, witness_config.2.1, by decide +kernel, by decide +kernel, played_one (by decide +kernel)⟩,
    next_of (by decide +kernel)⟩

/-- The shapes of TC1 are as R9 allows: the I piece flat, the others around the anchor. -/
theorem witness_shapesFit : ShapesFit tc1 := by
  unfold ShapesFit Fills LiesAt LiesIn
  decide +kernel

theorem witness_PlayedPieceStaysAtItsAnchor :
    Playing { tPiece with sched := [.host], port := [0x50000000#32] } ∧ ShapesFit tPiece.cfg ∧ PieceAtAnchor tPiece ∧
      ∃ t, step { tPiece with sched := [.host], port := [0x50000000#32] } = .next t :=
  ⟨⟨witness_config.1, witness_config.2.1, by decide +kernel, by decide +kernel, played_one (by decide +kernel)⟩,
    witness_shapesFit, by unfold PieceAtAnchor LiesAt LiesIn; decide +kernel, _, next_of (by decide +kernel)⟩

/-- The bounds of the margins, with a blocked target (T3) and without one. -/
theorem witness_RotationTurnsTheNeighbourhood :
    (let s := { tPiece with terrain := layer walls [(10, 0xC103#16)] }
     s.halt = false ∧ s.cfg.isI s.cur = false ∧ 1 ≤ s.anchorX.toNat ∧ s.anchorX.toNat ≤ 14 ∧ 1 ≤ s.anchorY.toNat ∧
      s.anchorY.toNat ≤ 30 ∧ occupied s 0 (-1) = true ∧ blocked s 1 0 = true) ∧
    (let s := { start with cur := 6, anchorX := 14#4, anchorY := 30#5, active := layer nothing [(31, 0x8000#16)] }
     s.halt = false ∧ s.cfg.isI s.cur = false ∧ 1 ≤ s.anchorX.toNat ∧ s.anchorX.toNat ≤ 14 ∧ 1 ≤ s.anchorY.toNat ∧
      s.anchorY.toNat ≤ 30 ∧ (∀ di ∈ ([-1, 0, 1] : List Int), ∀ dj ∈ ([-1, 0, 1] : List Int),
        occupied s dj (-di) = true → blocked s di dj = false)) := by decide +kernel

/-- One past each bound, for a piece other than I and for I. -/
theorem witness_RotationOutsideTheMarginsIsRefused :
    (let s := { tPiece with anchorX := 15#4 }
     s.halt = false ∧ s.cfg.isI s.cur = false ∧
      ¬(1 ≤ s.anchorX.toNat ∧ s.anchorX.toNat ≤ 14 ∧ 1 ≤ s.anchorY.toNat ∧ s.anchorY.toNat ≤ 30)) ∧
    (let s := { iPiece with anchorX := 14#4 }
     s.halt = false ∧ s.cfg.isI s.cur = true ∧ s.cfg.Decided ∧
      ∃ p ∈ verticalCells s ++ horizontalCells s, ¬(0 ≤ p.1 ∧ p.1 ≤ 31 ∧ 0 ≤ p.2 ∧ p.2 ≤ 15)) :=
  ⟨by decide +kernel, rfl, by decide +kernel, witness_config.2.1, by decide +kernel⟩

/-- The I piece upright. -/
def iUpright : State := { iPiece with
  active := layer nothing [(8, 0x0100#16), (9, 0x0100#16), (10, 0x0100#16), (11, 0x0100#16)] }

/-- Neither orientation (T9); upright; flat; a new cell over terrain (T8). -/
theorem witness_IPieceToggles :
    (let s := { iPiece with active := layer nothing [(9, 0x0700#16)] }
     s.halt = false ∧ s.cfg.isI s.cur = true ∧ marginsI s = true ∧ allSet s.active (verticalCells s) = false ∧
      allSet s.active (horizontalCells s) = false) ∧
    (iUpright.cfg.isI iUpright.cur = true ∧ marginsI iUpright = true ∧ allSet iUpright.active (verticalCells iUpright) = true ∧
      someSet iUpright.terrain (horizontalCells iUpright) = false) ∧
    (iPiece.cfg.isI iPiece.cur = true ∧ marginsI iPiece = true ∧ allSet iPiece.active (verticalCells iPiece) = false ∧
      allSet iPiece.active (horizontalCells iPiece) = true ∧ someSet iPiece.terrain (verticalCells iPiece) = false) ∧
    someSet (layer walls [(11, 0xC103#16)]) (verticalCells iPiece) = true := by decide +kernel

/-- The T piece turned four times, each time after the composition of the turn before. -/
theorem witness_RotationRoundTrips_turns :
    ∃ a a' b b' c c' d, tPiece.halt = false ∧ tPiece.cfg.isI tPiece.cur = false ∧
      (∀ (i : Fin 32) (k : Fin 16), i.val ≤ tPiece.anchorY.toNat + 1 → tPiece.anchorY.toNat ≤ i.val + 1 →
        tPiece.active[i].getLsbD k.val = true →
          k.val ≤ tPiece.anchorX.toNat + 1 ∧ tPiece.anchorX.toNat ≤ k.val + 1) ∧
      exec .rot tPiece = .next a ∧ a.resp = none ∧ SamePiece a a' ∧ exec .rot a' = .next b ∧ b.resp = none ∧
      SamePiece b b' ∧ exec .rot b' = .next c ∧ c.resp = none ∧ SamePiece c c' ∧ exec .rot c' = .next d ∧
      d.resp = none :=
  let a' := composed (exec .rot tPiece)
  let b' := composed (exec .rot a')
  let c' := composed (exec .rot b')
  ⟨nextOf (exec .rot tPiece), a', nextOf (exec .rot a'), b', nextOf (exec .rot b'), c', _, rfl, by decide +kernel,
    by decide +kernel, next_of (by decide +kernel), by decide +kernel,
    samePiece_of (by decide +kernel) (by decide +kernel), next_of (by decide +kernel), by decide +kernel,
    samePiece_of (by decide +kernel) (by decide +kernel), next_of (by decide +kernel), by decide +kernel,
    samePiece_of (by decide +kernel) (by decide +kernel), next_of (by decide +kernel), by decide +kernel⟩

/-- The I piece flat, then upright, then flat. -/
theorem witness_RotationRoundTrips_toggles :
    ∃ a a' b, iPiece.halt = false ∧ iPiece.cfg.isI iPiece.cur = true ∧ iPiece.cfg.Decided ∧
      (∀ p ∈ verticalCells iPiece ++ horizontalCells iPiece,
        (cellBit iPiece.active p = true ↔ p ∈ horizontalCells iPiece)) ∧
      exec .rot iPiece = .next a ∧ a.resp = none ∧ SamePiece a a' ∧ exec .rot a' = .next b ∧ b.resp = none :=
  ⟨nextOf (exec .rot iPiece), composed (exec .rot iPiece), _, rfl, by decide +kernel, witness_config.2.1,
    by decide +kernel, next_of (by decide +kernel), by decide +kernel,
    samePiece_of (by decide +kernel) (by decide +kernel), next_of (by decide +kernel), by decide +kernel⟩

theorem witness_IsFullTest : (31#8).toNat < 32 := by decide

/-- Complete rows at both ends of the playable range; no complete row. -/
theorem witness_LineClearCompacts :
    (let s := { start with terrain := layer walls [(8, 0xFFFF#16), (31, 0xFFFF#16)] }
     s.halt = false ∧ s.cfg.wallMask ≠ s.cfg.complete ∧ s.terrain[8] = s.cfg.complete ∧
      s.terrain[31] = s.cfg.complete) ∧
    (tPiece.halt = false ∧ tPiece.cfg.wallMask ≠ tPiece.cfg.complete ∧
      ∀ i : Fin 32, 8 ≤ i.val → tPiece.terrain[i] ≠ tPiece.cfg.complete) := by decide +kernel

theorem witness_EndlessLineClearFaults :
    let s := { start with cfg := { tc1 with wallMask := 0xFFFF#16 }, terrain := layer walls [(8, 0xFFFF#16)] }
    s.halt = false ∧ s.cfg.wallMask = s.cfg.complete ∧ 8 ≤ (8 : Fin 32).val ∧ s.terrain[8] = s.cfg.complete := by
  decide +kernel

theorem witness_InitStartsASession : (6#8).toNat < 7 ∧ start.halt = false := ⟨by decide, rfl⟩

/-- A free spawn; one blocked in the first shape row; one blocked in the second. -/
theorem witness_Spawn :
    (6#8).toNat < 7 ∧ tPiece.halt = false ∧
    (tPiece.cfg.shape[tPiece.nextPiece].1 &&& tPiece.terrain[shapeRow0 tPiece.cfg] = 0#16 ∧
      tPiece.cfg.shape[tPiece.nextPiece].2 &&& tPiece.terrain[shapeRow1 tPiece.cfg] = 0#16) ∧
    (let s := { tPiece with terrain := layer walls [(8, 0xC083#16)] }
     s.halt = false ∧ s.cfg.shape[s.nextPiece].1 &&& s.terrain[shapeRow0 s.cfg] ≠ 0#16) ∧
    (let s := { tPiece with terrain := layer walls [(9, 0xC103#16)] }
     s.halt = false ∧ s.cfg.shape[s.nextPiece].2 &&& s.terrain[shapeRow1 s.cfg] ≠ 0#16) := by decide +kernel

/-- A TC1 board at the start of the Game Over sequence. -/
def ending : State := { start with score := 7, cont := gameOverMicros }

/-- A blink phase with its three ticks before the poll. -/
def phaseTurns : List Turn := List.replicate 33 .host ++ [.tick, .tick, .tick, .host]

/-- The ten blink phases and the 42 micro-steps after them. -/
def endingTurns : List Turn := (List.replicate 10 phaseTurns).flatten ++ List.replicate 42 .host

theorem no_reset {l : List Turn} (h : l.all (· != .reset) = true) : Turn.reset ∉ l :=
  fun hm => absurd (List.all_eq_true.mp h _ hm) (by decide)

/-- The end; the first wait, after the rows are painted and `MS_TICK` is cleared. -/
theorem witness_GameOverEndState :
    (∃ t, ending.cfg.wf = true ∧ ending.cont = gameOverMicros ∧ ending.port = [] ∧ Turn.reset ∉ endingTurns ∧
      runTurns endingTurns ending = .next t ∧ t.cont = []) ∧
    ∃ t, Turn.reset ∉ List.replicate 33 Turn.host ∧ runTurns (List.replicate 33 .host) ending = .next t ∧
      t.cont.head? = some .waitMs :=
  ⟨⟨nextOf (runTurns endingTurns ending), witness_config.1, rfl, rfl, no_reset (by decide +kernel),
      next_of (by decide +kernel), by decide +kernel⟩,
    nextOf (runTurns (List.replicate 33 .host) ending), no_reset (by decide +kernel), next_of (by decide +kernel),
    by decide +kernel⟩

theorem witness_GameOverEndsWhenTicksCome :
    ending.cont = gameOverMicros ∧ ending.cfg.blinkTicks < 2 ^ ending.cfg.tickW := ⟨rfl, by decide +kernel⟩

/-- One tick short of the half blink, and the half blink reached. -/
theorem witness_WaitHoldsTheHost :
    (let s := { start with cont := [.waitMs], msTick := 2 }
     s.cont = .waitMs :: [] ∧ s.msTick < s.cfg.blinkTicks) ∧
    (let s := { start with cont := [.waitMs], msTick := 3 }
     s.cont = .waitMs :: [] ∧ s.cfg.blinkTicks ≤ s.msTick) := by decide +kernel

/-- The serial order taken, and the order turned round. -/
theorem witness_TickEventEffect :
    tc1.MostFirst ∧ { tc1 with byteOrder := .leastFirst, bitOrder := .leastFirst }.byteOrder = .leastFirst :=
  ⟨⟨rfl, rfl⟩, rfl⟩

theorem witness_TickShowsTheScannedRow : tPiece.cfg.MostFirst ∧ exec .tick tPiece = .next (tickEvent tPiece) :=
  ⟨⟨rfl, rfl⟩, rfl⟩

theorem witness_RefreshShowsTheFrame : tPiece.cfg.MostFirst := ⟨rfl, rfl⟩

/-- A latched board that a HOST turn follows. -/
theorem witness_LatchedRowPrecedesScan :
    let s := { start with scan := 1#5, sr := 0xFFFF80000000#48, out := 0xFFFF80000000#48, sched := [.host] }
    s.cfg.MostFirst ∧ ShowsLastRow s ∧ (takeTurn s).1 ≠ .reset ∧ ∃ t, step s = .next t :=
  ⟨⟨rfl, rfl⟩, by decide +kernel, by decide +kernel, _, rfl⟩

theorem witness_OwnershipPartition : (∃ t, move .tick tPiece = .next t) ∧ ∃ t, move .host composing = .next t :=
  ⟨⟨_, rfl⟩, ⟨_, rfl⟩⟩

/-- The halted board about to respond. -/
def responding : State := { halted with cont := [.respond 0#32], sched := [.host] }

theorem witness_HaltedBoardIsFrozen :
    responding.halt = true ∧ (takeTurn responding).1 ≠ .reset ∧ (∃ t, step responding = .next t) ∧
      ContinuationLegal responding :=
  ⟨rfl, by decide +kernel, ⟨_, rfl⟩, by decide +kernel⟩

theorem witness_ContinuationStaysLegal :
    ContinuationLegal composing ∧ CountersFit composing ∧ ∃ t, step { composing with sched := [.host] } = .next t :=
  ⟨by decide +kernel, ⟨by decide +kernel, by decide +kernel, by decide +kernel⟩, _, rfl⟩

theorem witness_InvariantsHoldAtReset : tc1.wf = true ∧ tc1.Decided ∧ ∀ w ∈ [0x71060000#32], playedWord w = true :=
  ⟨witness_config.1, witness_config.2.1, played_one (by decide +kernel)⟩

end Sys2Proof.Tests
end

section
/-! PROOFS of the scope family (`spec/00_scope.md`): whose move a step is. -/

namespace Sys2Proof.Machine

/-- With no turn scheduled, the step is that of the state whose schedule is drawn: host moves, then a tick. -/
theorem step_nil {s : State} (h : s.sched = []) :
    step s = step { s with
      sched := List.replicate (Config.hostMoves s.draws) .host ++ [.tick], draws := s.draws + 1 } := by
  unfold step
  rw [takeTurn_nil h]

/-- A scheduled turn of the idle HOST agent with nothing at the port takes the turn and does nothing else. -/
theorem step_host_idle {s : State} {rest : List Turn} (h : s.sched = .host :: rest) (hc : s.cont = [])
    (hp : s.port = []) : step s = .next { s with sched := rest } := by
  rw [step_cons h]
  exact hostMove_idle hc hp

/-- Settles O6, by what a step does with a scheduled turn, with an empty schedule, and with an idle HOST turn. -/
theorem stepMovesTheScheduledAgent : Obligations.StepMovesTheScheduledAgent :=
  ⟨fun _ _ _ h => step_cons h, fun _ h => step_nil h, fun _ _ h hc hp => step_host_idle h hc hp⟩

end Sys2Proof.Machine
end

section
/-! PROOFS of the state family (`spec/10_state.md`), first part: what a command can write, how it ends, and what a step
can do, said once for the invariants that follow. -/

namespace Sys2Proof.Machine

/-! ## What a command writes -/

/-- A command that touches no layer, anchor or piece: the overlay buffers, the frame, the tick counters (R115 to R124,
R195, R196), or nothing at all (`COMPOSE`, R197). -/
inductive WritesBuffer (s : State) : State → Prop
  | nothing : WritesBuffer s s
  | frameRow (j : Fin 32) (v : Row) : WritesBuffer s (s.setFrame j v)
  | previewRow (k : Fin 2) (v : Row) : WritesBuffer s (s.setPreview k v)
  | glyphRow (p : Fin 3) (k : Fin 5) (v : Row) : WritesBuffer s (s.setGlyph p k v)
  | glyphs : WritesBuffer s s.drawGlyphs
  | preview : WritesBuffer s s.drawPreview
  | msTick : WritesBuffer s { s with msTick := 0 }
  | debTick : WritesBuffer s { s with debTick := 0 }

/-- A command with which the host sets a layer, the anchor or a piece by hand, or performs a part of `DESC` alone
(R111, R113, R122, R147, R181). -/
inductive WritesByHand (s : State) : State → Prop
  | terrainRow (j : Fin 32) (v : Row) : WritesByHand s (s.setTerrain j v)
  | activeRow (j : Fin 32) (v : Row) : WritesByHand s (s.setActive j v)
  | score (n : Nat) (h : n < 2 ^ s.cfg.scoreW) : WritesByHand s { s with score := n }
  | anchorX (x : BitVec 4) : WritesByHand s { s with anchorX := x }
  | anchorY (y : BitVec 5) : WritesByHand s { s with anchorY := y }
  | cur (t : Piece) : WritesByHand s { s with cur := t }
  | nextPiece (t : Piece) : WritesByHand s { s with nextPiece := t }
  | lock : WritesByHand s (lockPiece s)
  | lineClear {u : State} (h : lineClear s = some u) : WritesByHand s u

/-- A rotation that is carried out: the table of the 3 by 3 neighbourhood or the toggle of the I piece (R165, R167). -/
inductive Rotates (s : State) : State → Prop
  | turn (hm : margins3 s = true) (hc : collides3 s = false) (hi : s.cfg.isI s.cur = false) : Rotates s (rotate3 s)
  | toggle {old new : List Cell} (hi : s.cfg.isI s.cur = true) (hm : marginsI s = true)
      (ho : orientation s = some (old, new)) (hb : someSet s.terrain new = false) : Rotates s (toggleCells old new s)

/-- `SPAWN-BODY(r)`: the old piece removed, and where the spawn is not blocked the new one placed (R238). -/
inductive Spawns (r : Piece) (s : State) : State → Prop
  | stuck : Spawns r s (promote r s)
  | placed (h : spawnBlocked s.nextPiece (promote r s) = false) : Spawns r s (placeShape (promote r s))

/-- The commands of `WritesByHand`, which a played session leaves out. -/
def byHand : Instr → Bool
  | .wrt _ _ | .wra _ _ | .wrcsr _ _ | .lock | .lclr => true
  | _ => false

/-- What a command that runs has written when it ends or leaves the rest to micro-steps, with the guards it passed. -/
inductive Writes : Instr → State → State → Prop
  | buffer {i : Instr} {s u : State} (h : WritesBuffer s u) : Writes i s u
  | hand {i : Instr} {s u : State} (hi : byHand i = true) (h : WritesByHand s u) : Writes i s u
  | left {s : State} (hc : canShiftLeft s = true) (hx : s.anchorX ≠ 15#4) : Writes .shl s (shiftLeft s)
  | right {s : State} (hc : canShiftRight s = true) (hx : s.anchorX ≠ 0#4) : Writes .shr s (shiftRight s)
  | down {s : State} (a : BitVec 8) (hc : canDescend s = true) (hy : s.anchorY ≠ 31#5) :
      Writes (.desc a) s (shiftDown s)
  | landed {s v u : State} {r : Piece} (a : BitVec 8) (hc : canDescend s = false)
      (hl : lineClear (lockPiece s) = some v) (hs : Spawns r v u) : Writes (.desc a) s u
  | rot {s u : State} (h : Rotates s u) : Writes .rot s u
  | spawn {s u : State} {r : Piece} (a : BitVec 8) (h : Spawns r s u) : Writes (.spawn a) s u
  | init {s : State} (a : BitVec 8) (r : Piece) : Writes (.init a) s (startBoard r s)

/-- How a command that runs ends: with a response, a refusal, or micro-steps left to do (R34, R95, R96). -/
inductive Ends (u : State) : State → Prop
  | responds (v : RespWord) : Ends u (u.respond v)
  | refuses (c : RefusalCode) : Ends u (u.refuse c)
  | composes : Ends u (u.issue composeAndRespond)
  | gameOver : Ends u (u.issue gameOverMicros)

/-- What a command makes of the state: a response and nothing else, or, where `HALT = 0`, its writes and its end. -/
inductive Performs (i : Instr) (s : State) : State → Prop
  | answers (r : Response) : Performs i s { s with resp := some r }
  | runs {u t : State} (hh : s.halt = false) (hw : Writes i s u) (he : Ends u t) : Performs i s t

theorem Performs.of_answer {i : Instr} {s t : State} {r : Response}
    (h : (.next { s with resp := some r } : Result) = .next t) : Performs i s t :=
  Host.Outcome.next.inj h ▸ .answers r

theorem Performs.of_run {i : Instr} {s u t t' : State} (hh : s.halt = false) (hw : Writes i s u) (he : Ends u t)
    (h : (.next t : Result) = .next t') : Performs i s t' :=
  Host.Outcome.next.inj h ▸ .runs hh hw he

theorem Performs.of_whenRunning {i : Instr} {s t : State} {k : Result} (h : whenRunning s k = .next t)
    (g : s.halt = false → k = .next t → Performs i s t) : Performs i s t := by
  obtain ⟨-, rfl⟩ | ⟨hh, hk⟩ := whenRunning_next h
  · exact .answers _
  · exact g hh hk

theorem Performs.of_inRange {α : Type} {i : Instr} {o : Option α} {s t : State} {k : α → Result}
    (h : inRange o s k = .next t) (g : ∀ x, k x = .next t → Performs i s t) : Performs i s t := by
  obtain ⟨-, rfl⟩ | ⟨x, -, hk⟩ := inRange_next h
  · exact .answers _
  · exact g x hk

theorem spawnBody_performs {i : Instr} {r : Piece} {s v : State} (hh : s.halt = false)
    (hw : ∀ u, Spawns r v u → Writes i s u) : Performs i s (spawnBody r v) := by
  obtain ⟨-, e⟩ | ⟨hb, e⟩ := spawnBody_cases r v
  · exact e ▸ .runs hh (hw _ .stuck) .gameOver
  · exact e ▸ .runs hh (hw _ (.placed hb)) .composes

theorem writeCsr_performs (c : Csr) (n : BitVec 8) (v : BitVec 16) {s : State} (hh : s.halt = false) :
    Performs (.wrcsr n v) s (writeCsr c v s) := by
  cases c with
  | status | scan | msTick | debTick | level | digits => exact .answers _
  | score =>
    by_cases hv : v.toNat < 2 ^ s.cfg.scoreW
    · simp only [writeCsr, counterValue_lt hv]
      exact .runs hh (.hand rfl (.score _ hv)) (.responds _)
    · simp only [writeCsr, counterValue_ge (Nat.not_lt.mp hv)]
      exact .answers _
  | anchorX =>
    simp only [writeCsr]
    split
    · exact .answers _
    · exact .runs hh (.hand rfl (.anchorX _)) (.responds _)
  | anchorY =>
    simp only [writeCsr]
    split
    · exact .answers _
    · exact .runs hh (.hand rfl (.anchorY _)) (.responds _)
  | cur =>
    simp only [writeCsr]
    split
    · exact .answers _
    · exact .runs hh (.hand rfl (.cur _)) (.responds _)
  | next =>
    simp only [writeCsr]
    split
    · exact .answers _
    · exact .runs hh (.hand rfl (.nextPiece _)) (.responds _)

theorem execRdcsr_performs {n : BitVec 8} {s t : State} (h : exec (.rdcsr n) s = .next t) :
    Performs (.rdcsr n) s t := by
  simp only [exec, execRdcsr] at h
  split at h <;> exact .of_answer h

theorem execWrcsr_performs {n : BitVec 8} {v : BitVec 16} {s t : State} (h : exec (.wrcsr n v) s = .next t) :
    Performs (.wrcsr n v) s t := by
  refine .of_whenRunning h fun hh h => ?_
  split at h
  · exact .of_answer h
  · exact Host.Outcome.next.inj h ▸ writeCsr_performs _ n v hh

theorem execShl_performs {s t : State} (h : exec .shl s = .next t) : Performs .shl s t := by
  refine .of_whenRunning h fun hh h => ?_
  split at h
  · rename_i hc
    split at h
    · exact .of_answer h
    · rename_i hx
      exact .of_run hh (.left hc hx) .composes h
  · exact .of_answer h

theorem execShr_performs {s t : State} (h : exec .shr s = .next t) : Performs .shr s t := by
  refine .of_whenRunning h fun hh h => ?_
  split at h
  · rename_i hc
    split at h
    · exact .of_answer h
    · rename_i hx
      exact .of_run hh (.right hc hx) .composes h
  · exact .of_answer h

theorem execDesc_performs {a : BitVec 8} {s t : State} (h : exec (.desc a) s = .next t) :
    Performs (.desc a) s t := by
  refine .of_whenRunning h fun hh h => .of_inRange h fun r h => ?_
  split at h
  · rename_i hc
    split at h
    · exact .of_answer h
    · rename_i hy
      exact .of_run hh (.down a hc hy) .composes h
  · rename_i hc
    split at h
    · cases h
    · rename_i v hl
      exact Host.Outcome.next.inj h ▸
        spawnBody_performs hh fun u => .landed a (Bool.eq_false_of_not_eq_true hc) hl

theorem execRot_performs {s t : State} (h : exec .rot s = .next t) : Performs .rot s t := by
  refine .of_whenRunning h fun hh h => ?_
  cases hi : s.cfg.isI s.cur <;> simp only [hi, if_true, Bool.false_eq_true, if_false] at h
  case false =>
    split at h
    · rename_i hm
      split at h
      · exact .of_answer h
      · rename_i hc
        exact .of_run hh (.rot (.turn hm (Bool.eq_false_of_not_eq_true hc) hi)) .composes h
    · exact .of_answer h
  case true =>
    split at h
    · rename_i hm
      split at h
      · exact .of_answer h
      · rename_i ho
        split at h
        · exact .of_answer h
        · rename_i hb
          exact .of_run hh (.rot (.toggle hi hm ho (Bool.eq_false_of_not_eq_true hb))) .composes h
    · exact .of_answer h

theorem execLclr_performs {s t : State} (h : exec .lclr s = .next t) : Performs .lclr s t := by
  refine .of_whenRunning h fun hh h => ?_
  split at h
  · cases h
  · rename_i hl
    exact .of_run hh (.hand rfl (.lineClear hl)) (.responds _) h

/-- Every host command of the table answers without a write, or runs, writes and ends. -/
theorem exec_performs {i : Instr} {s t : State} (hi : i ≠ .tick) (h : exec i s = .next t) : Performs i s t := by
  cases i with
  | nop | candesc | canshl | canshr => exact .of_answer h
  | rdt | rda | rdf | rdp | rdg | isfull => exact .of_inRange h fun _ h => .of_answer h
  | rdcsr => exact execRdcsr_performs h
  | wrt =>
    exact .of_whenRunning h fun hh h => .of_inRange h fun j h =>
      .of_run hh (.hand rfl (.terrainRow j _)) (.responds _) h
  | wra =>
    exact .of_whenRunning h fun hh h => .of_inRange h fun j h =>
      .of_run hh (.hand rfl (.activeRow j _)) (.responds _) h
  | wrf =>
    exact .of_whenRunning h fun hh h => .of_inRange h fun j h =>
      .of_run hh (.buffer (.frameRow j _)) (.responds _) h
  | wrp =>
    exact .of_whenRunning h fun hh h => .of_inRange h fun j h =>
      .of_run hh (.buffer (.previewRow j _)) (.responds _) h
  | wrg =>
    exact .of_whenRunning h fun hh h => .of_inRange h fun j h =>
      .of_run hh (.buffer (.glyphRow j.1 j.2 _)) (.responds _) h
  | wrcsr => exact execWrcsr_performs h
  | clrms => exact .of_whenRunning h fun hh h => .of_run hh (.buffer .msTick) (.responds _) h
  | clrdb => exact .of_whenRunning h fun hh h => .of_run hh (.buffer .debTick) (.responds _) h
  | compose => exact .of_whenRunning h fun hh h => .of_run hh (.buffer .nothing) .composes h
  | glyphs => exact .of_whenRunning h fun hh h => .of_run hh (.buffer .glyphs) (.responds _) h
  | preview => exact .of_whenRunning h fun hh h => .of_run hh (.buffer .preview) (.responds _) h
  | shl => exact execShl_performs h
  | shr => exact execShr_performs h
  | desc => exact execDesc_performs h
  | lock => exact .of_whenRunning h fun hh h => .of_run hh (.hand rfl .lock) (.responds _) h
  | rot => exact execRot_performs h
  | lclr => exact execLclr_performs h
  | spawn a =>
    exact .of_whenRunning h fun hh h => .of_inRange h fun r h =>
      Host.Outcome.next.inj h ▸ spawnBody_performs hh fun _ => .spawn a
  | init a =>
    exact .of_whenRunning h fun hh h => .of_inRange h fun r h => .of_run hh (.init a r) .composes h
  | tick => exact absurd rfl hi

/-! ## What a step can do -/

/-- No command word decodes to the tick line (R98). -/
theorem decodeCommand_ne_tick (w : CmdWord) : decodeCommand w ≠ .ok .tick := by
  unfold decodeCommand
  split
  · exact Decoded.noConfusion
  · split
    · rename_i o _ _
      cases o <;> simp [Opcode.instr]
    · exact Decoded.noConfusion

/-- A command of a played session is none of those that write by hand. -/
theorem byHand_of_playedWord {w : CmdWord} {i : Instr} (hp : playedWord w = true) (hd : decodeCommand w = .ok i) :
    byHand i = false := by
  unfold playedWord at hp
  rw [hd] at hp
  cases i with
  | wrt | wra | wrcsr | lock | lclr => exact absurd hp Bool.false_ne_true
  | _ => rfl

/-- The moves, by whose turn it is: the TICK event, the external reset, and of the HOST agent a micro-step, nothing, the
answer to a word, or a command that runs. -/
inductive Moves : Turn → State → State → Prop
  | tick {s : State} : Moves .tick s (tickEvent s)
  | reset {s : State} : Moves .reset s s.externalReset
  | micro {s : State} {m : Micro} {rest : List Micro} (hc : s.cont = m :: rest) :
      Moves .host s (runMicro m { s with cont := rest })
  | idle {s : State} : Moves .host s s
  | answers {s : State} {w : CmdWord} {rest : List CmdWord} (hp : s.port = w :: rest) (r : Response) :
      Moves .host s { s with port := rest, resp := some r }
  | runs {s u t : State} {w : CmdWord} {rest : List CmdWord} {i : Instr} (hc : s.cont = []) (hp : s.port = w :: rest)
      (hd : decodeCommand w = .ok i) (hh : s.halt = false) (hw : Writes i { s with port := rest } u) (he : Ends u t) :
      Moves .host s t

theorem illegalWord_answer (w : CmdWord) (s : State) : ∃ r, illegalWord w s = { s with resp := some r } := by
  unfold illegalWord
  split <;> exact ⟨_, rfl⟩

theorem move_moves {a : Turn} {s t : State} (h : move a s = .next t) : Moves a s t := by
  cases a with
  | tick => exact Host.Outcome.next.inj h ▸ .tick
  | reset => exact Host.Outcome.next.inj h ▸ .reset
  | host =>
    obtain ⟨m, rest, hc, rfl⟩ | ⟨w, rest, i, hc, hp, hd, he⟩ | ⟨w, rest, e, -, hp, -, rfl⟩ | ⟨-, -, rfl⟩ :=
      hostMove_cases h
    · exact .micro hc
    · cases exec_performs (fun hi => decodeCommand_ne_tick w (hi ▸ hd)) he with
      | answers r => exact .answers hp r
      | runs hh hw he => exact .runs hc hp hd hh hw he
    · obtain ⟨r, hr⟩ := illegalWord_answer w { s with port := rest }
      exact hr ▸ .answers hp r
    · exact .idle

/-- A step is a move of the state whose next turn is taken off the schedule. -/
theorem step_moves {s t : State} (h : step s = .next t) : Moves (takeTurn s).1 (takeTurn s).2 t := move_moves h

/-- What every move keeps, and the schedule and its draws do not enter, every step keeps. -/
theorem step_keeps {P : State → Prop} (hturn : ∀ s l n, P s → P { s with sched := l, draws := n })
    (hmove : ∀ {a : Turn} {s t : State}, Moves a s t → P s → P t) {s t : State} (h : step s = .next t) (hp : P s) :
    P t := by
  refine hmove (step_moves h) ?_
  rw [takeTurn_state]
  exact hturn _ _ _ hp

end Sys2Proof.Machine
end

section
/-! PROOFS of the state family (`spec/10_state.md`), second part: reset, the values the CSRs read, the continuation, the
counters and the halted state. -/

namespace Sys2Proof.Machine

/-! ## Reset -/

/-- Every row of a cleared buffer is zero. -/
theorem replicate_getElem_fin {α : Type} {n : Nat} (x : α) (i : Fin n) : (Vector.replicate n x)[i] = x :=
  Vector.getElem_replicate i.isLt

/-- Settles O12: a cleared buffer is zero in every row, and the scalars are zero as reset gives them. -/
theorem resetValues : Obligations.ResetValues :=
  ⟨fun i => ⟨replicate_getElem_fin _ i, replicate_getElem_fin _ i, replicate_getElem_fin _ i⟩,
    fun k => replicate_getElem_fin _ k,
    fun p k => (congrArg (·[k]) (replicate_getElem_fin _ p)).trans (replicate_getElem_fin _ k),
    rfl, rfl, rfl, rfl, rfl, rfl, rfl, rfl, rfl, rfl⟩

/-! ## Reading a CSR -/

theorem exec_rdcsr {n : BitVec 8} (c : Csr) {s : State} {v : RespWord} (h : csrOf n = some c) (hv : readCsr c s = v) :
    exec (.rdcsr n) s = .next { s with resp := ranWith v } := by
  subst hv
  simp only [exec, execRdcsr, h]
  rfl

theorem csrOf_reserved {n : BitVec 8} (h : 0x0A < n.toNat) : csrOf n = none :=
  List.getElem?_eq_none h

theorem exec_rdcsr_reserved {n : BitVec 8} (h : 0x0A < n.toNat) (s : State) :
    exec (.rdcsr n) s = .next { s with resp := refusedWith 4#32 } := by
  simp only [exec, execRdcsr, csrOf_reserved h]
  rfl

/-- The digits packed as `HUN`, `TEN`, `UNI` are their weighted sum (R30). -/
theorem digits_toNat (s : State) :
    s.digits.toNat = s.score / 100 % 10 * 256 + s.score / 10 % 10 * 16 + s.score % 10 := by
  have hu := Nat.mod_lt (s.score / 100) (show 10 > 0 by decide)
  have ht := Nat.mod_lt (s.score / 10) (show 10 > 0 by decide)
  have hn := Nat.mod_lt s.score (show 10 > 0 by decide)
  simp only [State.digits, State.hundreds, State.tens, State.units, BitVec.toNat_append, BitVec.toNat_ofNat]
  rw [← Nat.shiftLeft_add_eq_or_of_lt (by omega), ← Nat.shiftLeft_add_eq_or_of_lt (by omega)]
  simp only [Nat.shiftLeft_eq]
  omega

theorem readCsr_digits (s : State) : readCsr .digits s =
    BitVec.ofNat 32 (s.score / 100 % 10 * 256 + s.score / 10 % 10 * 16 + s.score % 10) :=
  (BitVec.ofNat_toNat 32 s.digits).symm.trans (congrArg (BitVec.ofNat 32) (digits_toNat s))

/-- Settles O20: the table of R37 row by row, the digits as the weighted sum, and code 4 past its end. -/
theorem csrReadValues : Obligations.CsrReadValues := fun s =>
  ⟨exec_rdcsr .status rfl rfl, exec_rdcsr .scan rfl (BitVec.ofNat_toNat 32 s.scan).symm, exec_rdcsr .msTick rfl rfl,
    exec_rdcsr .debTick rfl rfl, exec_rdcsr .score rfl rfl, exec_rdcsr .level rfl rfl,
    exec_rdcsr .anchorX rfl (BitVec.ofNat_toNat 32 s.anchorX).symm,
    exec_rdcsr .anchorY rfl (BitVec.ofNat_toNat 32 s.anchorY).symm, exec_rdcsr .cur rfl rfl, exec_rdcsr .next rfl rfl,
    exec_rdcsr .digits rfl (readCsr_digits s), fun _ h => exec_rdcsr_reserved h s⟩

/-! ## What the line clear keeps -/

section
variable {s t : State} (h : lineClear s = some t)
include h

theorem lineClear_cfg : t.cfg = s.cfg := (congrArg State.cfg (lineClear_state h) :)
theorem lineClear_active : t.active = s.active := (congrArg State.active (lineClear_state h) :)
theorem lineClear_anchorY : t.anchorY = s.anchorY := (congrArg State.anchorY (lineClear_state h) :)
theorem lineClear_halt : t.halt = s.halt := (congrArg State.halt (lineClear_state h) :)
theorem lineClear_cont : t.cont = s.cont := (congrArg State.cont (lineClear_state h) :)
theorem lineClear_port : t.port = s.port := (congrArg State.port (lineClear_state h) :)
theorem lineClear_msTick : t.msTick = s.msTick := (congrArg State.msTick (lineClear_state h) :)
theorem lineClear_debTick : t.debTick = s.debTick := (congrArg State.debTick (lineClear_state h) :)

end

/-! ## What no command writes -/

/-- Configuration, `HALT`, continuation and port are the same. -/
structure SameControl (s t : State) : Prop where
  cfg : t.cfg = s.cfg
  halt : t.halt = s.halt
  cont : t.cont = s.cont
  port : t.port = s.port

theorem lineClear_control {s t : State} (h : lineClear s = some t) : SameControl s t :=
  ⟨lineClear_cfg h, lineClear_halt h, lineClear_cont h, lineClear_port h⟩

theorem SameControl.trans {s t u : State} (h : SameControl s t) (g : SameControl t u) : SameControl s u :=
  ⟨g.cfg.trans h.cfg, g.halt.trans h.halt, g.cont.trans h.cont, g.port.trans h.port⟩

theorem WritesBuffer.control {s u : State} (h : WritesBuffer s u) : SameControl s u := by
  cases h <;> exact ⟨rfl, rfl, rfl, rfl⟩

theorem WritesByHand.control {s u : State} (h : WritesByHand s u) : SameControl s u := by
  cases h with
  | lineClear h => exact lineClear_control h
  | _ => exact ⟨rfl, rfl, rfl, rfl⟩

theorem Rotates.control {s u : State} (h : Rotates s u) : SameControl s u := by
  cases h <;> exact ⟨rfl, rfl, rfl, rfl⟩

theorem Spawns.control {r : Piece} {s u : State} (h : Spawns r s u) : SameControl s u := by
  cases h <;> exact ⟨rfl, rfl, rfl, rfl⟩

theorem Writes.control {i : Instr} {s u : State} (h : Writes i s u) : SameControl s u := by
  cases h with
  | buffer h => exact h.control
  | hand _ h => exact h.control
  | rot h => exact h.control
  | spawn _ h => exact h.control
  | landed _ _ hl hs =>
    have hlock : SameControl s (lockPiece s) := ⟨rfl, rfl, rfl, rfl⟩
    exact hlock.trans ((lineClear_control hl).trans hs.control)
  | left | right | down | init => exact ⟨rfl, rfl, rfl, rfl⟩

/-- The end of a command writes the continuation and the response. -/
theorem Ends.state {u t : State} (h : Ends u t) : t = { u with cont := t.cont, resp := t.resp } := by
  cases h <;> rfl

/-- A command leaves nothing to do, or the micro-steps of `COMPOSE()` or of the Game Over sequence. -/
theorem Ends.cont {u t : State} (h : Ends u t) :
    t.cont = u.cont ∨ t.cont = composeAndRespond ++ u.cont ∨ t.cont = gameOverMicros ++ u.cont := by
  cases h with
  | responds | refuses => exact .inl rfl
  | composes => exact .inr (.inl rfl)
  | gameOver => exact .inr (.inr rfl)

/-! ## The continuation -/

/-- What is pending is an end part of what a command of the table leaves to do (R34). -/
def PendingPart (ms : List Micro) : Prop := ms <:+ composeAndRespond ∨ ms <:+ gameOverMicros

theorem PendingPart.tail {m : Micro} {rest : List Micro} (h : PendingPart (m :: rest)) : PendingPart rest :=
  h.imp (List.suffix_cons m rest).trans (List.suffix_cons m rest).trans

theorem setHalt_notMem_composeMicros : Micro.setHalt ∉ composeMicros := by
  simp [composeMicros]

/-- The Game Over sequence up to `HALT <- 1` (R240). -/
def beforeHalt : List Micro :=
  (List.replicate 5 (blinkPhase 0xFFFF#16 ++ blinkPhase 0x0000#16)).flatten ++ [.clearSession] ++ composeMicros

theorem gameOverMicros_eq : gameOverMicros = beforeHalt ++ .setHalt :: [.respond 0#32] := by
  unfold gameOverMicros
  rfl

theorem setHalt_notMem_beforeHalt : Micro.setHalt ∉ beforeHalt := by
  simp [beforeHalt, blinkPhase, setHalt_notMem_composeMicros]

/-- `HALT` is set only by the micro-step before the last of the Game Over sequence (R240). -/
theorem after_setHalt {rest : List Micro} (h : PendingPart (.setHalt :: rest)) : rest = [.respond 0#32] := by
  obtain h | ⟨before, h⟩ := h
  · have hm : Micro.setHalt ∈ composeAndRespond := h.subset List.mem_cons_self
    simp [composeAndRespond, setHalt_notMem_composeMicros] at hm
  · rw [gameOverMicros_eq] at h
    exact ((List.append_cons_inj_of_notMem setHalt_notMem_beforeHalt (by simp)).mp h.symm).2.2.symm

/-- A micro-step is off the continuation when it is done; a wait that is not over puts itself back. -/
theorem runMicro_pending (m : Micro) (rest : List Micro) (s : State) :
    (runMicro m { s with cont := rest }).cont = rest ∨ (runMicro m { s with cont := rest }).cont = m :: rest := by
  cases m with
  | waitMs =>
    simp only [runMicro]
    split
    · exact .inl rfl
    · exact .inr rfl
  | _ => exact .inl rfl

/-- Only the micro-step `HALT <- 1` writes `HALT`. -/
theorem runMicro_halt {m : Micro} (h : m ≠ .setHalt) (s : State) : (runMicro m s).halt = s.halt := by
  cases m with
  | waitMs => simp only [runMicro]; split <;> rfl
  | setHalt => exact absurd rfl h
  | _ => rfl

/-- With `HALT = 1` the micro-step to come is the response, and the last (R241). -/
theorem halted_micro {m : Micro} {rest : List Micro} (h : m :: rest <:+ [Micro.respond 0#32]) :
    m = .respond 0#32 ∧ rest = [] := by
  obtain h | h := List.suffix_cons_iff.mp h
  · exact List.cons.inj h
  · cases List.suffix_nil.mp h

theorem continuationLegal_micro {s : State} {m : Micro} {rest : List Micro} (hc : s.cont = m :: rest)
    (h : ContinuationLegal s) : ContinuationLegal (runMicro m { s with cont := rest }) := by
  obtain ⟨hpart, hhalt⟩ := h
  rw [hc] at hpart hhalt
  refine ⟨?_, fun hh => ?_⟩
  · obtain e | e := runMicro_pending m rest s <;> rw [e]
    · exact PendingPart.tail hpart
    · exact hpart
  · by_cases hm : m = .setHalt
    · subst hm
      rw [show (runMicro .setHalt { s with cont := rest }).cont = rest from rfl, after_setHalt hpart]
    · rw [runMicro_halt hm] at hh
      obtain ⟨rfl, rfl⟩ := halted_micro (hhalt hh)
      exact List.nil_suffix

theorem continuationLegal_moves {a : Turn} {s t : State} (h : Moves a s t) (hs : ContinuationLegal s) :
    ContinuationLegal t := by
  cases h with
  | tick | idle | answers => exact hs
  | reset => exact ⟨.inl List.nil_suffix, fun _ => List.nil_suffix⟩
  | micro hc => exact continuationLegal_micro hc hs
  | runs hc hp hd hh hw he =>
    have hu := hw.control
    have hcu := hu.cont.trans hc
    refine ⟨?_, fun ht => ?_⟩
    · obtain e | e | e := he.cont <;> rw [e, hcu]
      · exact .inl List.nil_suffix
      · exact .inl (by rw [List.append_nil])
      · exact .inr (by rw [List.append_nil])
    · rw [he.state] at ht
      exact absurd (ht.symm.trans (hu.halt.trans hh)) Bool.true_eq_false_eq_False

/-! ## The counters -/

theorem lineClearFrom_score_lt (bound : Nat) : ∀ (r : Fin 32) (s t : State), lineClearFrom bound r s = some t →
    s.score < 2 ^ s.cfg.scoreW → t.score < 2 ^ s.cfg.scoreW := by
  induction bound with
  | zero =>
    intro r s t h hs
    simp only [lineClearFrom] at h
    split at h
    · cases h; exact hs
    · cases h
  | succ n ih =>
    intro r s t h hs
    simp only [lineClearFrom] at h
    split at h
    · cases h; exact hs
    · split at h
      · exact ih r (clearLine r s) t h (countUp_lt _ _)
      · exact ih (r - 1) s t h hs

theorem countersFit_lineClear {s t : State} (h : lineClear s = some t) (hs : CountersFit s) : CountersFit t := by
  obtain ⟨hm, hd, hc⟩ := hs
  have ht := lineClearFrom_score_lt 48 31 s t h hc
  rw [← lineClear_cfg h] at hm hd ht
  exact ⟨lineClear_msTick h ▸ hm, lineClear_debTick h ▸ hd, ht⟩

theorem countersFit_spawns {r : Piece} {s u : State} (h : Spawns r s u) (hs : CountersFit s) : CountersFit u := by
  cases h <;> exact ⟨hs.msTick, hs.debTick, hs.score⟩

theorem countersFit_writes {i : Instr} {s u : State} (h : Writes i s u) (hs : CountersFit s) : CountersFit u := by
  have hl : CountersFit (lockPiece s) := ⟨hs.msTick, hs.debTick, hs.score⟩
  cases h with
  | buffer h =>
    cases h with
    | msTick => exact ⟨Nat.two_pow_pos _, hs.debTick, hs.score⟩
    | debTick => exact ⟨hs.msTick, Nat.two_pow_pos _, hs.score⟩
    | _ => exact ⟨hs.msTick, hs.debTick, hs.score⟩
  | hand _ h =>
    cases h with
    | score n hn => exact ⟨hs.msTick, hs.debTick, hn⟩
    | lineClear h => exact countersFit_lineClear h hs
    | _ => exact ⟨hs.msTick, hs.debTick, hs.score⟩
  | left | right | down => exact ⟨hs.msTick, hs.debTick, hs.score⟩
  | rot h => cases h <;> exact ⟨hs.msTick, hs.debTick, hs.score⟩
  | landed _ _ hc h => exact countersFit_spawns h (countersFit_lineClear hc hl)
  | spawn _ h => exact countersFit_spawns h hs
  | init => exact ⟨hs.msTick, hs.debTick, Nat.two_pow_pos _⟩

theorem countersFit_micro (m : Micro) {s : State} (hs : CountersFit s) : CountersFit (runMicro m s) := by
  cases m with
  | waitMs =>
    simp only [runMicro]
    split <;> exact ⟨hs.msTick, hs.debTick, hs.score⟩
  | clearMs => exact ⟨Nat.two_pow_pos _, hs.debTick, hs.score⟩
  | clearSession => exact ⟨hs.msTick, hs.debTick, countDown_lt _ _⟩
  | _ => exact ⟨hs.msTick, hs.debTick, hs.score⟩

theorem countersFit_moves {a : Turn} {s t : State} (h : Moves a s t) (hs : CountersFit s) : CountersFit t := by
  cases h with
  | tick => exact ⟨countUp_lt _ _, countUp_lt _ _, hs.score⟩
  | reset => exact ⟨Nat.two_pow_pos _, Nat.two_pow_pos _, Nat.two_pow_pos _⟩
  | micro => exact countersFit_micro _ ⟨hs.msTick, hs.debTick, hs.score⟩
  | idle => exact hs
  | answers => exact ⟨hs.msTick, hs.debTick, hs.score⟩
  | runs hc hp hd hh hw he =>
    have hu := countersFit_writes hw ⟨hs.msTick, hs.debTick, hs.score⟩
    rw [he.state]
    exact ⟨hu.msTick, hu.debTick, hu.score⟩

/-- Settles O59: both are kept by every move, and neither reads the schedule. -/
theorem continuationStaysLegal : Obligations.ContinuationStaysLegal := fun _ _ h =>
  ⟨step_keeps (fun _ _ _ hs => hs) continuationLegal_moves h,
    step_keeps (fun _ _ _ hs => ⟨hs.msTick, hs.debTick, hs.score⟩) countersFit_moves h⟩

/-! ## The halted state -/

theorem moves_keeps_halt {a : Turn} {s t : State} (ha : a ≠ .reset) (h : Moves a s t) (hs : s.halt = true) :
    t.halt = true := by
  cases h with
  | reset => exact absurd rfl ha
  | tick | idle | answers => exact hs
  | @micro _ m rest hc =>
    by_cases hm : m = .setHalt
    · subst hm; rfl
    · rw [runMicro_halt hm]
      exact hs
  | runs _ _ _ hh => exact absurd (hs.symm.trans hh) Bool.true_eq_false_eq_False

theorem sameHostState_of_halted {a : Turn} {s t : State} (ha : a ≠ .reset) (h : Moves a s t)
    (hs : s.halt = true) (hc : ContinuationLegal s) : SameHostState s t := by
  cases h with
  | reset => exact absurd rfl ha
  | tick | idle | answers => exact ⟨rfl, rfl, rfl, rfl, rfl, rfl, rfl, rfl, rfl, rfl, rfl⟩
  | micro e =>
    obtain ⟨-, hhalt⟩ := hc
    obtain ⟨rfl, -⟩ := halted_micro (e ▸ hhalt hs)
    exact ⟨rfl, rfl, rfl, rfl, rfl, rfl, rfl, rfl, rfl, rfl, rfl⟩
  | runs _ _ _ hh => exact absurd (hs.symm.trans hh) Bool.true_eq_false_eq_False

/-- Settles O58: a halted HOST agent has at most its response to give, and no command runs. -/
theorem haltedBoardIsFrozen : Obligations.HaltedBoardIsFrozen := fun s t hs ha h => by
  have hm := step_moves h
  rw [takeTurn_state] at hm
  refine ⟨moves_keeps_halt ha hm hs, fun hc => ?_⟩
  obtain ⟨h1, h2, h3, h4, h5, h6, h7, h8, h9, h10, h11⟩ := sameHostState_of_halted ha hm hs hc
  exact ⟨h1, h2, h3, h4, h5, h6, h7, h8, h9, h10, h11⟩

end Sys2Proof.Machine
end

section
/-! PROOFS of the state family (`spec/10_state.md`), third part: the cells of a layer, and where each movement, rotation
and spawn puts the set bits of the active layer. -/

namespace Sys2Proof.Machine

/-! ## Rows and cells by their bits -/

theorem row_and_eq_zero {p q : Row} :
    p &&& q = 0#16 ↔ ∀ b : Fin 16, p.getLsbD b.val = true → q.getLsbD b.val = false := by
  refine ⟨fun h b hp => ?_, fun h => BitVec.eq_of_getLsbD_eq fun b hb => ?_⟩
  · have hz := congrArg (BitVec.getLsbD · b.val) h
    simpa [hp] using hz
  · rw [BitVec.getLsbD_and, BitVec.getLsbD_zero, Bool.and_eq_false_imp]
    exact h ⟨b, hb⟩

theorem row_eq_zero {p : Row} (h : ∀ b : Fin 16, p.getLsbD b.val ≠ true) : p = 0#16 :=
  BitVec.eq_of_getLsbD_eq fun b hb => by
    rw [BitVec.getLsbD_zero]
    exact Bool.eq_false_of_not_eq_true (h ⟨b, hb⟩)

theorem getLsbD_one_shiftLeft (n : Nat) (b : Fin 16) : (1#16 <<< n).getLsbD b.val = decide (b.val = n) := by
  rw [BitVec.getLsbD_shiftLeft, BitVec.getLsbD_one, Bool.eq_iff_iff]
  simp only [Bool.and_eq_true, Bool.not_eq_true', decide_eq_true_eq, decide_eq_false_iff_not]
  omega

theorem getLsbD_bitRow {v : Bool} {n : Nat} {b : Fin 16} :
    (bitRow v n).getLsbD b.val = true ↔ v = true ∧ b.val = n := by
  cases v with
  | false => simp [bitRow]
  | true => rw [bitRow, if_pos rfl, getLsbD_one_shiftLeft, decide_eq_true_eq, eq_self, true_and]

theorem exists_cellOf {p : Cell} (h : cellExists p = true) : ∃ i b, p = cellOf i b := by
  simp only [cellExists, Bool.and_eq_true, decide_eq_true_eq] at h
  obtain ⟨⟨⟨hr, hr'⟩, hc⟩, hc'⟩ := h
  exact ⟨⟨p.1.toNat, by omega⟩, ⟨p.2.toNat, by omega⟩,
    Prod.ext (Int.toNat_of_nonneg hr).symm (Int.toNat_of_nonneg hc).symm⟩

theorem cellOf_inj {i j : Fin 32} {b c : Fin 16} : cellOf i b = cellOf j c ↔ i = j ∧ b = c := by
  simp [cellOf, Fin.ext_iff]

@[simp] theorem cellBit_cellOf (v : Rows) (i : Fin 32) (b : Fin 16) : cellBit v (cellOf i b) = v[i].getLsbD b.val :=
  dif_pos i.isLt

theorem setCell_cellOf (v : Rows) (i : Fin 32) (b : Fin 16) :
    setCell v (cellOf i b) = v.set i (v[i] ||| 1#16 <<< b.val) :=
  dif_pos i.isLt

theorem clearCell_cellOf (v : Rows) (i : Fin 32) (b : Fin 16) :
    clearCell v (cellOf i b) = v.set i (v[i] &&& ~~~(1#16 <<< b.val)) :=
  dif_pos i.isLt

theorem getLsbD_setCell {p : Cell} (h : cellExists p = true) (v : Rows) (j : Fin 32) (c : Fin 16) :
    (setCell v p)[j].getLsbD c.val = true ↔ v[j].getLsbD c.val = true ∨ cellOf j c = p := by
  obtain ⟨i, b, rfl⟩ := exists_cellOf h
  rw [setCell_cellOf, set_getElem_fin, cellOf_inj]
  by_cases hj : j = i
  · subst hj
    rw [if_pos rfl, BitVec.getLsbD_or, getLsbD_one_shiftLeft, Bool.or_eq_true, decide_eq_true_eq, eq_self, true_and,
      Fin.ext_iff]
  · simp [hj]

theorem getLsbD_clearCell {p : Cell} (h : cellExists p = true) (v : Rows) (j : Fin 32) (c : Fin 16) :
    (clearCell v p)[j].getLsbD c.val = true ↔ v[j].getLsbD c.val = true ∧ cellOf j c ≠ p := by
  obtain ⟨i, b, rfl⟩ := exists_cellOf h
  rw [clearCell_cellOf, set_getElem_fin, Ne, cellOf_inj]
  by_cases hj : j = i
  · subst hj
    rw [if_pos rfl, BitVec.getLsbD_and, BitVec.getLsbD_not, getLsbD_one_shiftLeft, decide_eq_true c.isLt, Bool.true_and,
      Bool.and_eq_true, Bool.not_eq_true', decide_eq_false_iff_not, eq_self, true_and, Fin.ext_iff]
  · simp [hj]

theorem getLsbD_setCells (cs : List Cell) : ∀ (_ : ∀ p ∈ cs, cellExists p = true) (v : Rows) (j : Fin 32) (c : Fin 16),
    (cs.foldl setCell v)[j].getLsbD c.val = true ↔ v[j].getLsbD c.val = true ∨ cellOf j c ∈ cs := by
  induction cs with
  | nil => simp
  | cons p cs ih =>
    intro h v j c
    rw [List.foldl_cons, ih (fun q hq => h q (List.mem_cons_of_mem _ hq)), getLsbD_setCell (h p List.mem_cons_self),
      List.mem_cons, or_assoc]

theorem getLsbD_clearCells (cs : List Cell) :
    ∀ (_ : ∀ p ∈ cs, cellExists p = true) (v : Rows) (j : Fin 32) (c : Fin 16),
      (cs.foldl clearCell v)[j].getLsbD c.val = true ↔ v[j].getLsbD c.val = true ∧ cellOf j c ∉ cs := by
  induction cs with
  | nil => simp
  | cons p cs ih =>
    intro h v j c
    rw [List.foldl_cons, ih (fun q hq => h q (List.mem_cons_of_mem _ hq)), getLsbD_clearCell (h p List.mem_cons_self),
      List.mem_cons, not_or, and_assoc]

theorem someSet_eq_false {v : Rows} {cs : List Cell} (h : someSet v cs = false) {i : Fin 32} {b : Fin 16}
    (hc : cellOf i b ∈ cs) : v[i].getLsbD b.val = false := by
  have hb := List.any_eq_false.mp h _ hc
  rw [cellBit_cellOf] at hb
  exact Bool.eq_false_of_not_eq_true hb

/-! ## The active layer after each operation -/

theorem shiftLeft_active (s : State) (i : Fin 32) : (shiftLeft s).active[i] =
    if inFoot s.cfg s.anchorY i = true then s.active[i] <<< 1 else s.active[i] :=
  tabulate_getElem_fin _ i

theorem shiftRight_active (s : State) (i : Fin 32) : (shiftRight s).active[i] =
    if inFoot s.cfg s.anchorY i = true then s.active[i] >>> 1 else s.active[i] :=
  tabulate_getElem_fin _ i

theorem shiftDown_active (s : State) (i : Fin 32) : (shiftDown s).active[i] =
    if i.val = 0 then 0#16 else s.active[i.val - 1] :=
  tabulate_getElem_fin _ i

theorem promote_active (r : Piece) (s : State) (i : Fin 32) : (promote r s).active[i] =
    if inFoot s.cfg s.anchorY i = true then 0#16 else s.active[i] :=
  tabulate_getElem_fin _ i

theorem rotate3_active (s : State) (i : Fin 32) : (rotate3 s).active[i] =
    if i.val + 1 = s.anchorY.toNat then gridRowBits s 0
    else if i.val = s.anchorY.toNat then gridRowBits s 1
    else if i.val = s.anchorY.toNat + 1 then gridRowBits s 2
    else s.active[i] :=
  tabulate_getElem_fin _ i

theorem shapeRow0_ne_shapeRow1 (c : Config) : shapeRow0 c ≠ shapeRow1 c := by simp [shapeRow0, shapeRow1]

theorem placeShape_row (s : State) (i : Fin 32) : (placeShape s).active[i] =
    if i = shapeRow1 s.cfg then s.cfg.shape[s.cur].2
    else if i = shapeRow0 s.cfg then s.cfg.shape[s.cur].1 else s.active[i] := by
  rw [placeShape_active, set_getElem_fin, set_getElem_fin]

/-- A bit after the left shift comes from the bit before it, where the active layer lies in the footprint. -/
theorem shiftLeft_bit {s : State} (hf : ActiveInFootprint s) {i : Fin 32} {b : Fin 16}
    (h : (shiftLeft s).active[i].getLsbD b.val = true) :
    ∃ b' : Fin 16, s.active[i].getLsbD b'.val = true ∧ b.val = b'.val + 1 := by
  rw [shiftLeft_active] at h
  split at h
  · rw [BitVec.getLsbD_shiftLeft] at h
    simp only [Bool.and_eq_true, Bool.not_eq_true', decide_eq_true_eq, decide_eq_false_iff_not] at h
    obtain ⟨⟨-, hb⟩, h⟩ := h
    exact ⟨⟨b.val - 1, by omega⟩, h, by simp only; omega⟩
  · rename_i hn
    rw [hf i (Bool.eq_false_of_not_eq_true hn), BitVec.getLsbD_zero] at h
    cases h

/-- A bit after the right shift comes from the bit after it, where the active layer lies in the footprint. -/
theorem shiftRight_bit {s : State} (hf : ActiveInFootprint s) {i : Fin 32} {b : Fin 16}
    (h : (shiftRight s).active[i].getLsbD b.val = true) :
    ∃ b' : Fin 16, s.active[i].getLsbD b'.val = true ∧ b'.val = b.val + 1 := by
  rw [shiftRight_active] at h
  split at h
  · rw [BitVec.getLsbD_ushiftRight, Nat.add_comm] at h
    exact ⟨⟨b.val + 1, BitVec.lt_of_getLsbD h⟩, h, rfl⟩
  · rename_i hn
    rw [hf i (Bool.eq_false_of_not_eq_true hn), BitVec.getLsbD_zero] at h
    cases h

/-- A bit after the descent comes from the row above. -/
theorem shiftDown_bit {s : State} {i : Fin 32} {b : Fin 16} (h : (shiftDown s).active[i].getLsbD b.val = true) :
    ∃ i' : Fin 32, s.active[i'].getLsbD b.val = true ∧ i.val = i'.val + 1 := by
  rw [shiftDown_active] at h
  split at h
  · rw [BitVec.getLsbD_zero] at h
    cases h
  · exact ⟨⟨i.val - 1, by omega⟩, h, by simp only; omega⟩

theorem gridRow_bounds (n : Fin 9) : -1 ≤ gridRow n ∧ gridRow n ≤ 1 := by
  unfold gridRow
  omega

theorem gridBit_bounds (n : Fin 9) : -1 ≤ gridBit n ∧ gridBit n ≤ 1 := by
  unfold gridBit
  omega

theorem gridRowBits_bit {s : State} (hx : 1 ≤ s.anchorX.toNat) {g : Fin 3} {b : Fin 16}
    (h : (gridRowBits s g).getLsbD b.val = true) :
    ∃ n : Fin 9, (rotated s)[n] = true ∧ gridRow n = g.val - 1 ∧ (b.val : Int) = s.anchorX.toNat + gridBit n := by
  simp only [gridRowBits, BitVec.getLsbD_or, Bool.or_eq_true, getLsbD_bitRow] at h
  obtain (⟨hr, hb⟩ | ⟨hr, hb⟩) | ⟨hr, hb⟩ := h
  · exact ⟨⟨3 * g.val, by omega⟩, hr, by simp only [gridRow]; omega, by simp only [gridBit]; omega⟩
  · exact ⟨⟨3 * g.val + 1, by omega⟩, hr, by simp only [gridRow]; omega, by simp only [gridBit]; omega⟩
  · exact ⟨⟨3 * g.val + 2, by omega⟩, hr, by simp only [gridRow]; omega, by simp only [gridBit]; omega⟩

/-- A bit after the 3 by 3 turn is a set bit of the rotation table, or was set before outside the three rows. -/
theorem rotate3_bit {s : State} (hx : 1 ≤ s.anchorX.toNat) {i : Fin 32} {b : Fin 16}
    (h : (rotate3 s).active[i].getLsbD b.val = true) :
    (∃ n : Fin 9, (rotated s)[n] = true ∧ cellOf i b = anchorCell s (gridRow n) (gridBit n)) ∨
      (s.active[i].getLsbD b.val = true ∧ (i.val + 1 < s.anchorY.toNat ∨ s.anchorY.toNat + 1 < i.val)) := by
  rw [rotate3_active] at h
  have hgrid : ∀ {g : Fin 3}, (gridRowBits s g).getLsbD b.val = true → i.val + 1 = s.anchorY.toNat + g.val →
      ∃ n : Fin 9, (rotated s)[n] = true ∧ cellOf i b = anchorCell s (gridRow n) (gridBit n) := by
    intro g hg hi
    obtain ⟨n, hn, hr, hb⟩ := gridRowBits_bit hx hg
    exact ⟨n, hn, Prod.ext (by simp only [cellOf, anchorCell, cellAt]; omega) hb⟩
  split at h
  · exact .inl (hgrid h (by omega))
  · split at h
    · exact .inl (hgrid h (by omega))
    · split at h
      · exact .inl (hgrid h (by omega))
      · exact .inr ⟨h, by omega⟩

/-- The toggle is from one orientation at the anchor to the other (R167). -/
theorem orientation_cases {s : State} {old new : List Cell} (h : orientation s = some (old, new)) :
    (old = verticalCells s ∧ new = horizontalCells s) ∨ (old = horizontalCells s ∧ new = verticalCells s) := by
  unfold orientation at h
  split at h
  · cases h; exact .inl ⟨rfl, rfl⟩
  · split at h
    · cases h; exact .inr ⟨rfl, rfl⟩
    · cases h

/-- A bit after the toggle lies in the new cells, or was set before outside the old ones. -/
theorem toggle_bit {s : State} {old new : List Cell} (hm : marginsI s = true) (ho : orientation s = some (old, new))
    {i : Fin 32} {b : Fin 16} (h : (toggleCells old new s).active[i].getLsbD b.val = true) :
    (s.active[i].getLsbD b.val = true ∧ cellOf i b ∉ old) ∨ cellOf i b ∈ new := by
  have hv : ∀ p ∈ verticalCells s, cellExists p = true := fun p hp =>
    List.all_eq_true.mp hm p (List.mem_append_left _ hp)
  have hh : ∀ p ∈ horizontalCells s, cellExists p = true := fun p hp =>
    List.all_eq_true.mp hm p (List.mem_append_right _ hp)
  have he : (∀ p ∈ old, cellExists p = true) ∧ ∀ p ∈ new, cellExists p = true := by
    obtain ⟨rfl, rfl⟩ | ⟨rfl, rfl⟩ := orientation_cases ho
    · exact ⟨hv, hh⟩
    · exact ⟨hh, hv⟩
  exact ((getLsbD_setCells new he.2 _ i b).mp h).imp_left (getLsbD_clearCells old he.1 s.active i b).mp

end Sys2Proof.Machine
end

section
/-! PROOFS of the state family (`spec/10_state.md`), fourth part: layer exclusion, the footprint and the anchor of the
active piece, each kept by every command of a played session (R38, R39). -/

namespace Sys2Proof.Machine

/-! ## States that agree on the board -/

/-- The same configuration, layers, anchor and piece: what R38 and R39 speak of. -/
structure SameBoard (s t : State) : Prop where
  cfg : t.cfg = s.cfg
  terrain : t.terrain = s.terrain
  active : t.active = s.active
  anchorX : t.anchorX = s.anchorX
  anchorY : t.anchorY = s.anchorY
  cur : t.cur = s.cur

theorem SameBoard.apart {s t : State} (h : SameBoard s t) (hs : LayerExclusion s) : LayerExclusion t := fun i => by
  rw [h.active, h.terrain]
  exact hs i

theorem SameBoard.inFoot {s t : State} (h : SameBoard s t) (hs : ActiveInFootprint s) : ActiveInFootprint t := by
  intro i hi
  rw [h.cfg, h.anchorY] at hi
  rw [h.active]
  exact hs i hi

theorem SameBoard.atAnchor {s t : State} (h : SameBoard s t) (hs : PieceAtAnchor s) : PieceAtAnchor t := by
  unfold PieceAtAnchor
  rw [h.cfg, h.cur, h.anchorX, h.anchorY, h.active]
  exact hs

theorem WritesBuffer.board {s u : State} (h : WritesBuffer s u) : SameBoard s u := by
  cases h <;> exact ⟨rfl, rfl, rfl, rfl, rfl, rfl⟩

/-- Of the micro-steps only the clears of the Game Over sequence write the board (R240). -/
theorem runMicro_board {m : Micro} (h : m ≠ .clearSession) (s : State) (rest : List Micro) :
    SameBoard s (runMicro m { s with cont := rest }) := by
  cases m with
  | clearSession => exact absurd rfl h
  | waitMs =>
    simp only [runMicro]
    split <;> exact ⟨rfl, rfl, rfl, rfl, rfl, rfl⟩
  | _ => exact ⟨rfl, rfl, rfl, rfl, rfl, rfl⟩

/-- The end of a command leaves the board alone. -/
theorem Ends.board {u t : State} (h : Ends u t) : SameBoard u t := by
  rw [h.state]
  exact ⟨rfl, rfl, rfl, rfl, rfl, rfl⟩

/-! ## A board with no piece -/

/-- The active layer is clear. -/
def NoPiece (s : State) : Prop := ∀ i : Fin 32, s.active[i] = 0#16

theorem NoPiece.apart {s : State} (h : NoPiece s) : LayerExclusion s := fun i => by
  rw [h i, BitVec.zero_and]

theorem NoPiece.inFoot {s : State} (h : NoPiece s) : ActiveInFootprint s := fun i _ => h i

theorem NoPiece.atAnchor {s : State} (h : NoPiece s) : PieceAtAnchor s := by
  have hb : ∀ (i : Fin 32) (b : Fin 16), s.active[i].getLsbD b.val ≠ true := fun i b e => by
    rw [h i, BitVec.getLsbD_zero] at e
    cases e
  unfold PieceAtAnchor LiesAt
  split
  · exact .inl fun i b e => absurd e (hb i b)
  · exact fun i b e => absurd e (hb i b)

theorem noPiece_afterReset (c : Config) (port : List CmdWord) (sched : List Turn) (n : Nat) :
    NoPiece (State.afterReset c port sched n) := fun i => replicate_getElem_fin _ i

theorem noPiece_clearSession (s : State) : NoPiece s.clearSession := fun i => replicate_getElem_fin _ i

theorem noPiece_startBoard (r : Piece) (s : State) : NoPiece (startBoard r s) := fun i => replicate_getElem_fin _ i

/-- The promotion clears the footprint, and with it the piece that lies there (R238). -/
theorem noPiece_promote (r : Piece) {s : State} (h : ActiveInFootprint s) : NoPiece (promote r s) := fun i => by
  rw [promote_active]
  split
  · rfl
  · rename_i hn
    exact h i (Bool.eq_false_of_not_eq_true hn)

/-- The line clear of the locked piece leaves the active layer where it was. -/
theorem inFoot_locked {s v : State} (h : lineClear (lockPiece s) = some v) (hs : ActiveInFootprint s) :
    ActiveInFootprint v := by
  intro i hi
  rw [lineClear_cfg h, lineClear_anchorY h] at hi
  rw [lineClear_active h]
  exact hs i hi

/-! ## Layer exclusion (R38) -/

theorem shiftLeft_apart {s : State} (hc : canShiftLeft s = true) (hs : LayerExclusion s) :
    LayerExclusion (shiftLeft s) := fun i => by
  rw [shiftLeft_active, shiftLeft_terrain]
  split
  · exact canShiftLeft_iff.mp hc i ‹_›
  · exact hs i

theorem shiftRight_apart {s : State} (hc : canShiftRight s = true) (hs : LayerExclusion s) :
    LayerExclusion (shiftRight s) := fun i => by
  rw [shiftRight_active, shiftRight_terrain]
  split
  · exact canShiftRight_iff.mp hc i ‹_›
  · exact hs i

theorem shiftDown_apart {s : State} (hc : canDescend s = true) : LayerExclusion (shiftDown s) := fun i => by
  obtain ⟨-, hrow⟩ := canDescend_iff.mp hc
  rw [shiftDown_active, shiftDown_terrain]
  split
  · exact BitVec.zero_and
  · have h := hrow ⟨i.val - 1, by omega⟩
    simp only [show i.val - 1 + 1 = i.val by omega] at h
    exact h

theorem rotate3_apart {s : State} (hm : margins3 s = true) (hc : collides3 s = false) (hs : LayerExclusion s) :
    LayerExclusion (rotate3 s) := fun i => row_and_eq_zero.mpr fun b hb => by
  simp only [margins3, Bool.and_eq_true, decide_eq_true_eq] at hm
  obtain ⟨⟨⟨hx, -⟩, -⟩, -⟩ := hm
  obtain ⟨n, hn, hcell⟩ | ⟨hold, -⟩ := rotate3_bit hx hb
  · have hfree := List.any_eq_false.mp hc n (List.mem_finRange n)
    rw [hn, Bool.true_and, blocked, ← hcell, cellBit_cellOf] at hfree
    exact Bool.eq_false_of_not_eq_true hfree
  · exact row_and_eq_zero.mp (hs i) b hold

theorem toggle_apart {s : State} {old new : List Cell} (hm : marginsI s = true)
    (ho : orientation s = some (old, new)) (hb : someSet s.terrain new = false) (hs : LayerExclusion s) :
    LayerExclusion (toggleCells old new s) := fun i => row_and_eq_zero.mpr fun b h => by
  obtain ⟨hold, -⟩ | hnew := toggle_bit hm ho h
  · exact row_and_eq_zero.mp (hs i) b hold
  · exact someSet_eq_false hb hnew

theorem Rotates.apart {s u : State} (h : Rotates s u) (hs : LayerExclusion s) : LayerExclusion u := by
  cases h with
  | turn hm hc => exact rotate3_apart hm hc hs
  | toggle _ hm ho hb => exact toggle_apart hm ho hb hs

theorem promote_apart (r : Piece) {s : State} (hs : LayerExclusion s) : LayerExclusion (promote r s) := fun i => by
  rw [promote_active, promote_terrain]
  split
  · exact BitVec.zero_and
  · exact hs i

theorem placeShape_apart {s : State} (h : spawnBlocked s.cur s = false) (hs : LayerExclusion s) :
    LayerExclusion (placeShape s) := fun i => by
  simp only [spawnBlocked, Bool.or_eq_false_iff, overlap_eq_false] at h
  obtain ⟨h0, h1⟩ := h
  rw [placeShape_row, placeShape_terrain]
  split
  · subst i
    exact h1
  · split
    · subst i
      exact h0
    · exact hs i

theorem Spawns.apart {r : Piece} {s u : State} (h : Spawns r s u) (hp : LayerExclusion (promote r s)) :
    LayerExclusion u := by
  cases h with
  | stuck => exact hp
  | placed hb => exact placeShape_apart hb hp

/-- A command that writes nothing by hand keeps the layers apart. `DESC` does so on its shift path, and on its lock path
where the active layer lies in the footprint, which the spawn clears (R38, R149). -/
theorem Writes.apart {i : Instr} {s u : State} (h : Writes i s u) (hi : byHand i = false)
    (hd : ∀ a, i = .desc a → canDescend s = true ∨ ActiveInFootprint s) (hs : LayerExclusion s) : LayerExclusion u := by
  cases h with
  | buffer h => exact h.board.apart hs
  | hand hi' => exact absurd (hi'.symm.trans hi) Bool.true_eq_false_eq_False
  | left hc => exact shiftLeft_apart hc hs
  | right hc => exact shiftRight_apart hc hs
  | down _ hc => exact shiftDown_apart hc
  | landed a hc hl h =>
    obtain hc' | hf := hd a rfl
    · exact absurd (hc'.symm.trans hc) Bool.true_eq_false_eq_False
    · exact h.apart (noPiece_promote _ (inFoot_locked hl hf)).apart
  | rot h => exact h.apart hs
  | spawn _ h => exact h.apart (promote_apart _ hs)
  | init => exact (noPiece_startBoard _ _).apart

theorem Performs.apart {i : Instr} {s t : State} (h : Performs i s t) (hi : byHand i = false)
    (hd : ∀ a, i = .desc a → canDescend s = true ∨ ActiveInFootprint s) (hs : LayerExclusion s) : LayerExclusion t := by
  cases h with
  | answers => exact hs
  | runs _ hw he => exact he.board.apart (hw.apart hi hd hs)

theorem canDescend_of_candesc {s : State} (h : exec .candesc s = .next { s with resp := ranWith 1#32 }) :
    canDescend s = true := by
  cases hc : canDescend s with
  | true => rfl
  | false =>
    have hr := congrArg State.resp (Host.Outcome.next.inj h)
    simp [State.answer, hc] at hr

/-- Settles O37: none of the five writes by hand, and `DESC` is on its shift path. -/
theorem movesPreserveLayerExclusion : Obligations.MovesPreserveLayerExclusion := fun s t i hs hi h => by
  have keeps (ht : i ≠ .tick) (hb : byHand i = false)
      (hd : ∀ a, i = .desc a → canDescend s = true ∨ ActiveInFootprint s) : LayerExclusion t :=
    (exec_performs ht h).apart hb hd hs
  obtain rfl | rfl | rfl | ⟨r, rfl⟩ | ⟨hc, r, rfl⟩ := hi
  · exact keeps nofun rfl nofun
  · exact keeps nofun rfl nofun
  · exact keeps nofun rfl nofun
  · exact keeps nofun rfl nofun
  · exact keeps nofun rfl fun _ _ => .inl (canDescend_of_candesc hc)

/-! ## The footprint (R39, first part) -/

/-- The shape rows lie in the footprint of the spawn anchor (R9). -/
theorem wf_shapeRows {c : Config} (h : c.wf = true) :
    c.spawnY.toNat ≤ c.shapeRow0.val + c.footUp ∧ c.shapeRow0.val + 1 ≤ c.spawnY.toNat + c.footDn := by
  simp only [Config.wf, Bool.and_eq_true, decide_eq_true_eq] at h
  exact ⟨by omega, by omega⟩

theorem shapeRow0_inFoot {c : Config} (h : c.wf = true) : inFoot c c.spawnY (shapeRow0 c) = true := by
  obtain ⟨h0, h1⟩ := wf_shapeRows h
  rw [inFoot_iff]
  simp only [shapeRow0]
  omega

theorem shapeRow1_inFoot {c : Config} (h : c.wf = true) : inFoot c c.spawnY (shapeRow1 c) = true := by
  obtain ⟨h0, h1⟩ := wf_shapeRows h
  rw [inFoot_iff]
  simp only [shapeRow1]
  omega

theorem shiftLeft_inFoot {s : State} (hs : ActiveInFootprint s) : ActiveInFootprint (shiftLeft s) := by
  intro i hi
  rw [shiftLeft_cfg, shiftLeft_anchorY] at hi
  rw [shiftLeft_active, hi]
  exact hs i hi

theorem shiftRight_inFoot {s : State} (hs : ActiveInFootprint s) : ActiveInFootprint (shiftRight s) := by
  intro i hi
  rw [shiftRight_cfg, shiftRight_anchorY] at hi
  rw [shiftRight_active, hi]
  exact hs i hi

theorem toNat_add_one_of_ne {y : BitVec 5} (h : y ≠ 31#5) : (y + 1#5).toNat = y.toNat + 1 := by
  bv_omega

theorem shiftDown_inFoot {s : State} (hy : s.anchorY ≠ 31#5) (hs : ActiveInFootprint s) :
    ActiveInFootprint (shiftDown s) := by
  intro i hi
  rw [shiftDown_cfg, shiftDown_anchorY, ← Bool.not_eq_true, inFoot_iff, toNat_add_one_of_ne hy] at hi
  rw [shiftDown_active]
  split
  · rfl
  · refine hs ⟨i.val - 1, by omega⟩ ?_
    rw [← Bool.not_eq_true, inFoot_iff]
    simp only
    omega

/-- The rows of the 3 by 3 cells and of both orientations of the I piece lie in the footprint, with the values taken. -/
theorem inFoot_of_near {c : Config} (hd : c.Decided) {y : BitVec 5} {i : Fin 32} {d : Int}
    (h : (i.val : Int) = y.toNat + d) (hlo : -2 ≤ d) (hhi : d ≤ 2) : inFoot c y i = true := by
  rw [inFoot_iff, hd.footUp, hd.footDn]
  omega

theorem rotate3_inFoot {s : State} (hd : s.cfg.Decided) (hm : margins3 s = true) (hs : ActiveInFootprint s) :
    ActiveInFootprint (rotate3 s) := by
  intro i hi
  simp only [margins3, Bool.and_eq_true, decide_eq_true_eq] at hm
  obtain ⟨⟨⟨hx, -⟩, -⟩, -⟩ := hm
  refine row_eq_zero fun b hb => ?_
  obtain ⟨n, -, hcell⟩ | ⟨hold, -⟩ := rotate3_bit hx hb
  · have hg := gridRow_bounds n
    have hin := inFoot_of_near hd (congrArg Prod.fst hcell) (by omega) (by omega)
    exact absurd (hin.symm.trans hi) Bool.true_eq_false_eq_False
  · rw [hs i hi, BitVec.getLsbD_zero] at hold
    cases hold

theorem toggle_inFoot {s : State} {old new : List Cell} (hd : s.cfg.Decided) (hm : marginsI s = true)
    (ho : orientation s = some (old, new)) (hs : ActiveInFootprint s) : ActiveInFootprint (toggleCells old new s) := by
  intro i hi
  have hnear : ∀ b : Fin 16, cellOf i b ∈ new → inFoot s.cfg s.anchorY i = true := fun b hb => by
    obtain ⟨-, rfl⟩ | ⟨-, rfl⟩ := orientation_cases ho
    · obtain ⟨d, -, he⟩ := List.mem_map.mp hb
      exact inFoot_of_near hd (congrArg Prod.fst he).symm (by decide) (by decide)
    · obtain ⟨d, hmem, he⟩ := List.mem_map.mp hb
      rw [hd.iVrows] at hmem
      have hrange : -2 ≤ d ∧ d ≤ 2 := by
        simp only [List.mem_cons, List.not_mem_nil, or_false] at hmem
        omega
      exact inFoot_of_near hd (congrArg Prod.fst he).symm hrange.1 hrange.2
  refine row_eq_zero fun b hb => ?_
  obtain ⟨hold, -⟩ | hnew := toggle_bit hm ho hb
  · rw [hs i hi, BitVec.getLsbD_zero] at hold
    cases hold
  · exact absurd ((hnear b hnew).symm.trans hi) Bool.true_eq_false_eq_False

theorem placeShape_inFoot {s : State} (hwf : s.cfg.wf = true) (hy : s.anchorY = s.cfg.spawnY) (hn : NoPiece s) :
    ActiveInFootprint (placeShape s) := by
  intro i hi
  rw [placeShape_cfg, placeShape_anchorY, hy] at hi
  rw [placeShape_row]
  split
  · subst i
    exact absurd ((shapeRow1_inFoot hwf).symm.trans hi) Bool.true_eq_false_eq_False
  · split
    · subst i
      exact absurd ((shapeRow0_inFoot hwf).symm.trans hi) Bool.true_eq_false_eq_False
    · exact hn i

theorem Spawns.inFoot {r : Piece} {s u : State} (h : Spawns r s u) (hwf : s.cfg.wf = true)
    (hs : ActiveInFootprint s) : ActiveInFootprint u := by
  cases h with
  | stuck => exact (noPiece_promote r hs).inFoot
  | placed => exact placeShape_inFoot hwf rfl (noPiece_promote r hs)

/-- A command that writes nothing by hand keeps the active layer in the footprint. -/
theorem Writes.inFoot {i : Instr} {s u : State} (h : Writes i s u) (hi : byHand i = false)
    (hwf : s.cfg.wf = true) (hd : s.cfg.Decided) (hs : ActiveInFootprint s) : ActiveInFootprint u := by
  cases h with
  | buffer h => exact h.board.inFoot hs
  | hand hi' => exact absurd (hi'.symm.trans hi) Bool.true_eq_false_eq_False
  | left => exact shiftLeft_inFoot hs
  | right => exact shiftRight_inFoot hs
  | down _ _ hy => exact shiftDown_inFoot hy hs
  | landed _ _ hl h => exact h.inFoot (lineClear_cfg hl ▸ hwf) (inFoot_locked hl hs)
  | rot h =>
    cases h with
    | turn hm => exact rotate3_inFoot hd hm hs
    | toggle _ hm ho => exact toggle_inFoot hd hm ho hs
  | spawn _ h => exact h.inFoot hwf hs
  | init => exact (noPiece_startBoard _ _).inFoot

/-! ## A played session -/

theorem Playing.of_board {s t : State} (hs : Playing s) (hb : SameBoard s t) (hp : ∀ w ∈ t.port, w ∈ s.port) :
    Playing t :=
  ⟨hb.cfg ▸ hs.wf, hb.cfg ▸ hs.decided, hb.apart hs.apart, hb.inFoot hs.inFoot, fun w hw => hs.words w (hp w hw)⟩

theorem Playing.of_noPiece {s t : State} (hs : Playing s) (hc : t.cfg = s.cfg) (hn : NoPiece t) (hp : t.port = s.port) :
    Playing t :=
  ⟨hc ▸ hs.wf, hc ▸ hs.decided, hn.apart, hn.inFoot, hp ▸ hs.words⟩

/-- The session goes on with the word taken off the port. -/
theorem Playing.take_word {s : State} {w : CmdWord} {rest : List CmdWord} (hs : Playing s) (hp : s.port = w :: rest) :
    Playing { s with port := rest } :=
  hs.of_board ⟨rfl, rfl, rfl, rfl, rfl, rfl⟩ fun _ hv => hp ▸ List.mem_cons_of_mem w hv

theorem Playing.writes {i : Instr} {s u : State} (hs : Playing s) (hi : byHand i = false) (h : Writes i s u) :
    Playing u :=
  have hc := h.control
  ⟨hc.cfg ▸ hs.wf, hc.cfg ▸ hs.decided, h.apart hi (fun _ _ => .inr hs.inFoot) hs.apart,
    h.inFoot hi hs.wf hs.decided hs.inFoot, hc.port ▸ hs.words⟩

theorem Ends.port {u t : State} (h : Ends u t) : t.port = u.port := by
  rw [h.state]

@[simp] theorem runMicro_port (m : Micro) (s : State) : (runMicro m s).port = s.port := by
  cases m with
  | waitMs => simp only [runMicro]; split <;> rfl
  | _ => rfl

theorem playing_moves {a : Turn} {s t : State} (h : Moves a s t) (hs : Playing s) : Playing t := by
  cases h with
  | tick => exact hs.of_board ⟨rfl, rfl, rfl, rfl, rfl, rfl⟩ fun _ => id
  | reset => exact hs.of_noPiece rfl (noPiece_afterReset _ _ _ _) rfl
  | @micro _ m rest hc =>
    by_cases hm : m = .clearSession
    · subst hm
      exact hs.of_noPiece rfl (noPiece_clearSession _) rfl
    · exact hs.of_board (runMicro_board hm s rest) fun w hw => by rwa [runMicro_port] at hw
  | idle => exact hs
  | answers hp => exact (hs.take_word hp).of_board ⟨rfl, rfl, rfl, rfl, rfl, rfl⟩ fun _ => id
  | @runs _ u _ w rest _ hc hp hd hh hw he =>
    have hi := byHand_of_playedWord (hs.words w (hp ▸ List.mem_cons_self)) hd
    exact ((hs.take_word hp).writes hi hw).of_board he.board fun _ => he.port ▸ id

/-- Settles O38: every move keeps a played session, and the schedule does not enter. -/
theorem playedSessionKeepsLayersApart : Obligations.PlayedSessionKeepsLayersApart := fun _ _ hs h =>
  step_keeps (fun _ _ _ hs => hs.of_board ⟨rfl, rfl, rfl, rfl, rfl, rfl⟩ fun _ => id) playing_moves h hs

/-! ## The anchor (R39) -/

theorem liesAt_of_isI {c : Config} {t : Piece} (h : c.isI t = true) {x : BitVec 4} {y : BitVec 5} {v : Rows} :
    LiesAt c t x y v ↔ LiesIn v (verticalAt c x y) ∨ LiesIn v (horizontalAt c x y) := by
  unfold LiesAt
  rw [if_pos h]

theorem liesAt_of_not_isI {c : Config} {t : Piece} (h : c.isI t = false) {x : BitVec 4} {y : BitVec 5} {v : Rows} :
    LiesAt c t x y v ↔ ∀ (i : Fin 32) (b : Fin 16), v[i].getLsbD b.val = true →
      i.val ≤ y.toNat + 1 ∧ y.toNat ≤ i.val + 1 ∧ b.val ≤ x.toNat + 1 ∧ x.toNat ≤ b.val + 1 := by
  unfold LiesAt
  rw [if_neg (Bool.not_eq_true _ ▸ h)]

/-- Every set bit of layer `v'` is a set bit of `v`, moved by `dx` bits and `dy` rows. -/
def MovedBits (dx dy : Int) (v v' : Rows) : Prop :=
  ∀ (i : Fin 32) (b : Fin 16), v'[i].getLsbD b.val = true → ∃ (i' : Fin 32) (b' : Fin 16),
    v[i'].getLsbD b'.val = true ∧ (i.val : Int) = i'.val + dy ∧ (b.val : Int) = b'.val + dx

section
variable {dx dy : Int} {x x' : BitVec 4} {y y' : BitVec 5} {v v' : Rows} (hx : (x'.toNat : Int) = x.toNat + dx)
  (hy : (y'.toNat : Int) = y.toNat + dy) (hv : MovedBits dx dy v v')
include hx hy hv

theorem LiesIn.moved {ds : List Int} {di dj : Int → Int}
    (h : LiesIn v (ds.map fun d => cellAt x y (di d) (dj d))) :
    LiesIn v' (ds.map fun d => cellAt x' y' (di d) (dj d)) := by
  intro i b hb
  obtain ⟨i', b', hb', hi, hj⟩ := hv i b hb
  obtain ⟨d, hd, he⟩ := List.mem_map.mp (h i' b' hb')
  obtain ⟨hrow, hbit⟩ := Prod.ext_iff.mp he
  simp only [cellAt, cellOf] at hrow hbit
  refine List.mem_map.mpr ⟨d, hd, Prod.ext ?_ ?_⟩
  · simp only [cellAt, cellOf]
    omega
  · simp only [cellAt, cellOf]
    omega

/-- A layer whose set bits are those of another, moved, lies at the anchor moved with them. -/
theorem LiesAt.moved {c : Config} {t : Piece} (h : LiesAt c t x y v) : LiesAt c t x' y' v' := by
  cases hI : c.isI t with
  | true =>
    rw [liesAt_of_isI hI] at h ⊢
    exact h.imp (LiesIn.moved hx hy hv) (LiesIn.moved hx hy hv)
  | false =>
    rw [liesAt_of_not_isI hI] at h ⊢
    intro i b hb
    obtain ⟨i', b', hb', hi, hj⟩ := hv i b hb
    have hn := h i' b' hb'
    omega

end

theorem shiftLeft_atAnchor {s : State} (hx : s.anchorX ≠ 15#4) (hf : ActiveInFootprint s) (hs : PieceAtAnchor s) :
    PieceAtAnchor (shiftLeft s) := by
  refine LiesAt.moved (dx := 1) ?_ (Int.add_zero _).symm (fun i b hb => ?_) hs
  · rw [shiftLeft_anchorX]
    bv_omega
  · obtain ⟨b', hb', e⟩ := shiftLeft_bit hf hb
    exact ⟨i, b', hb', by omega, by omega⟩

theorem shiftRight_atAnchor {s : State} (hx : s.anchorX ≠ 0#4) (hf : ActiveInFootprint s) (hs : PieceAtAnchor s) :
    PieceAtAnchor (shiftRight s) := by
  refine LiesAt.moved (dx := -1) ?_ (Int.add_zero _).symm (fun i b hb => ?_) hs
  · rw [shiftRight_anchorX]
    bv_omega
  · obtain ⟨b', hb', e⟩ := shiftRight_bit hf hb
    exact ⟨i, b', hb', by omega, by omega⟩

theorem shiftDown_atAnchor {s : State} (hy : s.anchorY ≠ 31#5) (hs : PieceAtAnchor s) :
    PieceAtAnchor (shiftDown s) := by
  refine LiesAt.moved (dy := 1) (Int.add_zero _).symm ?_ (fun i b hb => ?_) hs
  · rw [shiftDown_anchorY, toNat_add_one_of_ne hy]
    rfl
  · obtain ⟨i', hb', e⟩ := shiftDown_bit hb
    exact ⟨i', b, hb', by omega, by omega⟩

theorem rotate3_atAnchor {s : State} (hm : margins3 s = true) (hi : s.cfg.isI s.cur = false) (hs : PieceAtAnchor s) :
    PieceAtAnchor (rotate3 s) := by
  simp only [margins3, Bool.and_eq_true, decide_eq_true_eq] at hm
  obtain ⟨⟨⟨hx, -⟩, -⟩, -⟩ := hm
  refine (liesAt_of_not_isI hi).mpr fun i b hb => ?_
  obtain ⟨n, -, hcell⟩ | ⟨hold, hfar⟩ := rotate3_bit hx hb
  · obtain ⟨hrow, hbit⟩ := Prod.ext_iff.mp hcell
    simp only [cellOf, anchorCell, cellAt] at hrow hbit
    rw [rotate3_anchorX, rotate3_anchorY]
    have hr := gridRow_bounds n
    have hc := gridBit_bounds n
    omega
  · have hn := (liesAt_of_not_isI hi).mp hs i b hold
    rw [rotate3_anchorX, rotate3_anchorY]
    omega

theorem toggle_atAnchor {s : State} {old new : List Cell} (hm : marginsI s = true)
    (ho : orientation s = some (old, new)) (hi : s.cfg.isI s.cur = true) (hs : PieceAtAnchor s) :
    PieceAtAnchor (toggleCells old new s) := by
  have hnew : LiesIn s.active old ∨ LiesIn s.active new → LiesIn (toggleCells old new s).active new := by
    intro h i b hb
    obtain ⟨hold, hnot⟩ | hin := toggle_bit hm ho hb
    · exact h.elim (fun h => absurd (h i b hold) hnot) (fun h => h i b hold)
    · exact hin
  have hs := (liesAt_of_isI hi).mp hs
  refine (liesAt_of_isI hi).mpr ?_
  obtain ⟨rfl, rfl⟩ | ⟨rfl, rfl⟩ := orientation_cases ho
  · exact .inr (hnew hs)
  · exact .inl (hnew hs.symm)

theorem Fills.liesIn {v : Rows} {cells : List Cell} (h : Fills v cells) : LiesIn v cells := fun i b => (h i b).mp

/-- A piece of the shapes R9 allows lies at the spawn anchor when it is placed. -/
theorem spawnLayer_liesAt {c : Config} (h : ShapesFit c) (t : Piece) :
    LiesAt c t c.spawnX c.spawnY (spawnLayer c t) := by
  have ht := h t
  split at ht
  · rename_i hi
    exact (liesAt_of_isI hi).mpr (ht.imp Fills.liesIn Fills.liesIn)
  · exact ht

theorem placeShape_active_eq_spawnLayer {s : State} (hn : NoPiece s) :
    (placeShape s).active = spawnLayer s.cfg s.cur := by
  refine vector_ext fun i => ?_
  rw [placeShape_row, spawnLayer, tabulate_getElem_fin, hn i]
  by_cases h1 : i = shapeRow1 s.cfg
  · subst h1
    rw [if_pos rfl, if_neg (shapeRow0_ne_shapeRow1 s.cfg).symm, if_pos rfl]
  · rw [if_neg h1, if_neg h1]

theorem Spawns.atAnchor {r : Piece} {s u : State} (h : Spawns r s u) (hfit : ShapesFit s.cfg)
    (hs : ActiveInFootprint s) : PieceAtAnchor u := by
  have hn := noPiece_promote r hs
  cases h with
  | stuck => exact hn.atAnchor
  | placed =>
    unfold PieceAtAnchor
    rw [placeShape_active_eq_spawnLayer hn]
    exact spawnLayer_liesAt hfit _

/-- A command that writes nothing by hand keeps a piece inside the footprint at its anchor. -/
theorem Writes.atAnchor {i : Instr} {s u : State} (h : Writes i s u) (hi : byHand i = false)
    (hfit : ShapesFit s.cfg) (hf : ActiveInFootprint s) (hs : PieceAtAnchor s) : PieceAtAnchor u := by
  cases h with
  | buffer h => exact h.board.atAnchor hs
  | hand hi' => exact absurd (hi'.symm.trans hi) Bool.true_eq_false_eq_False
  | left _ hx => exact shiftLeft_atAnchor hx hf hs
  | right _ hx => exact shiftRight_atAnchor hx hf hs
  | down _ _ hy => exact shiftDown_atAnchor hy hs
  | landed _ _ hl h => exact h.atAnchor (lineClear_cfg hl ▸ hfit) (inFoot_locked hl hf)
  | rot h =>
    cases h with
    | turn hm _ hi => exact rotate3_atAnchor hm hi hs
    | toggle hi hm ho => exact toggle_atAnchor hm ho hi hs
  | spawn _ h => exact h.atAnchor hfit hf
  | init => exact (noPiece_startBoard _ _).atAnchor

theorem pieceAtAnchor_moves {a : Turn} {s t : State} (h : Moves a s t) (hp : Playing s) (hfit : ShapesFit s.cfg)
    (hs : PieceAtAnchor s) : PieceAtAnchor t := by
  cases h with
  | tick | idle | answers => exact hs
  | reset => exact (noPiece_afterReset _ _ _ _).atAnchor
  | @micro _ m rest hc =>
    by_cases hm : m = .clearSession
    · subst hm
      exact (noPiece_clearSession _).atAnchor
    · exact (runMicro_board hm s rest).atAnchor hs
  | @runs _ u _ w rest _ hc hport hd hh hw he =>
    have hi := byHand_of_playedWord (hp.words w (hport ▸ List.mem_cons_self)) hd
    exact he.board.atAnchor (hw.atAnchor hi hfit hp.inFoot hs)

/-- Settles O39: every move of a played session keeps the piece at its anchor, and the schedule does not enter. -/
theorem playedPieceStaysAtItsAnchor : Obligations.PlayedPieceStaysAtItsAnchor := fun s t hp hfit hs h => by
  have hm := step_moves h
  rw [takeTurn_state] at hm
  exact pieceAtAnchor_moves hm (hp.of_board ⟨rfl, rfl, rfl, rfl, rfl, rfl⟩ fun _ => id) hfit hs

/-! ## The invariants at reset -/

/-- Settles O60: nothing is pending, the counters are zero, and the board has no piece. -/
theorem invariantsHoldAtReset : Obligations.InvariantsHoldAtReset :=
  ⟨⟨.inl List.nil_suffix, fun _ => List.nil_suffix⟩, ⟨Nat.two_pow_pos _, Nat.two_pow_pos _, Nat.two_pow_pos _⟩,
    fun c words turns n hwf hd hwords =>
      have hn := noPiece_afterReset c words turns n
      ⟨⟨hwf, hd, hn.apart, hn.inFoot, hwords⟩, hn.atAnchor⟩⟩

end Sys2Proof.Machine
end

section
/-! PROOFS of the memory family (`spec/20_memory.md`): the instruction a step runs, and the refusal of an operand out of
its range. -/

namespace Sys2Proof.Machine

/-! ## The instruction a step runs -/

/-- The idle HOST agent takes the word at the port and runs what it decodes to (R33, R74). -/
theorem step_host_word {s : State} {w : CmdWord} {words : List CmdWord} {rest : List Turn} {i : Instr}
    (h : s.sched = .host :: rest) (hc : s.cont = []) (hp : s.port = w :: words) (hd : decodeCommand w = .ok i) :
    step s = exec i { s with sched := rest, port := words } :=
  calc step s
    _ = move .host { s with sched := rest } := step_cons h
    _ = issueWord w { s with sched := rest, port := words } := hostMove_word hc hp
    _ = exec i { s with sched := rest, port := words } := issueWord_ok hd _

/-- Settles O7, by the idle HOST agent's move and the TICK agent's. -/
theorem stepRunsTheDecodedInstruction : Obligations.StepRunsTheDecodedInstruction :=
  ⟨fun _ _ _ _ _ h hc hp hd => step_host_word h hc hp hd, fun _ _ h => step_cons h⟩

/-! ## Operands out of range -/

section
variable {α : Type} {o : Option α} {s : State} {k : α → Result}

theorem inRange_refuses (ho : o = none) : inRange o s k = .next { s with resp := refusedWith 2#32 } := by
  subst ho
  rfl

theorem whenRunning_inRange_refuses (hh : s.halt = false) (ho : o = none) :
    whenRunning s (inRange o s k) = .next { s with resp := refusedWith 2#32 } := by
  rw [whenRunning_run hh, inRange_refuses ho]

end

/-- Settles O17: a read command checks its operand first, another command after its `HALT` check, by the kind of
operand. -/
theorem outOfRangeOperandIsRefused : Obligations.OutOfRangeOperandIsRefused := by
  refine fun s i => ⟨?reads, fun hh => ?runs⟩
  case reads =>
    rintro (⟨a, ha, hi⟩ | ⟨a, ha, rfl⟩ | ⟨p, k, hpk, rfl⟩)
    · obtain rfl | rfl | rfl | rfl := hi <;> exact inRange_refuses (rowIndex_ge ha)
    · exact inRange_refuses (previewIndex_ge ha)
    · exact inRange_refuses (glyphIndex_ge hpk)
  case runs =>
    rintro (⟨a, v, ha, hi⟩ | ⟨a, v, ha, rfl⟩ | ⟨p, k, v, hpk, rfl⟩ | ⟨a, ha, hi⟩)
    · obtain rfl | rfl | rfl := hi <;> exact whenRunning_inRange_refuses hh (rowIndex_ge ha)
    · exact whenRunning_inRange_refuses hh (previewIndex_ge ha)
    · exact whenRunning_inRange_refuses hh (glyphIndex_ge hpk)
    · obtain rfl | rfl | rfl := hi <;> exact whenRunning_inRange_refuses hh (drawOperand_ge ha)

end Sys2Proof.Machine
end

section
/-! PROOFS of the encoding family (`spec/30_encoding.md`): what the decoder answers for a word of a known row, the round
trip with the encoder, the mask and match form, and the step that takes a presented or an illegal word. -/

namespace Sys2Proof

/-! ## The decoder's answer -/

theorem ofCode_none {b : BitVec 8} (h : ∀ o : Opcode, b ≠ o.code) : Opcode.ofCode b = none := by
  cases hb : Opcode.ofCode b with
  | none => rfl
  | some o => exact absurd (ofCode_some hb).symm (h o)

section
variable {w : CmdWord} {o : Opcode}

theorem decodeCommand_reserved (h : ∀ o : Opcode, opField w ≠ o.code) :
    decodeCommand w = .rejected .reservedOpcode := by
  rw [decodeCommand, ofCode_none h]

theorem decodeCommand_row (h : opField w = o.code) (hz : unusedZero o.format (aField w) (dField w) = true) :
    decodeCommand w = .ok (o.instr (aField w) (dField w)) := by
  rw [decodeCommand, h, ofCode_code]
  exact if_pos hz

theorem decodeCommand_commandWord {a : BitVec 8} {d : BitVec 16} (hz : unusedZero o.format a d = true) :
    decodeCommand (commandWord o.code a d) = .ok (o.instr a d) := by
  have h := decodeCommand_row (opField_commandWord o.code a d) (by simpa using hz)
  rwa [aField_commandWord, dField_commandWord] at h

theorem decodeCommand_row_unused (h : opField w = o.code)
    (hz : unusedZero o.format (aField w) (dField w) = false) :
    decodeCommand w = .rejected .unusedFieldNotZero := by
  rw [decodeCommand, h, ofCode_code]
  exact if_neg (Bool.eq_false_iff.mp hz)

/-- The one inversion of the decoder: an accepted word is a word of some row, its unused fields zero. -/
theorem decodeCommand_eq_ok {i : Instr} (h : decodeCommand w = .ok i) :
    ∃ o : Opcode, opField w = o.code ∧ unusedZero o.format (aField w) (dField w) = true ∧
      i = o.instr (aField w) (dField w) := by
  unfold decodeCommand at h
  split at h
  case h_1 => cases h
  case h_2 o ho =>
    split at h
    case isTrue hz => exact ⟨o, (ofCode_some ho).symm, hz, (Decoded.ok.inj h).symm⟩
    case isFalse => cases h

end

/-! ## The encoder and the rows of the table -/

/-- The encoder's fields name the operation: they have zero in what the row does not use, and the row gives the
operation back. For `WRG` and `RDG` this is the split of `a` into its two nibbles (R92). -/
theorem fields_some {i : Instr} {o : Opcode} {a : BitVec 8} {d : BitVec 16} (h : i.fields = some (o, a, d)) :
    unusedZero o.format a d = true ∧ o.instr a d = i := by
  cases i <;> simp only [Instr.fields, Option.some.injEq, Prod.mk.injEq, reduceCtorEq] at h <;>
    obtain ⟨rfl, rfl, rfl⟩ := h <;>
    simp [unusedZero, Opcode.format, Opcode.instr, high_nibble, low_nibble]

theorem fields_none {i : Instr} (h : i.fields = none) : i = .tick := by
  cases i with
  | tick => rfl
  | _ => nomatch h

/-- The other way round: where the unused fields are zero, a row's operation has the row's own fields. -/
theorem fields_instr {o : Opcode} {a : BitVec 8} {d : BitVec 16} (h : unusedZero o.format a d = true) :
    (o.instr a d).fields = some (o, a, d) := by
  cases o <;> simp_all [unusedZero, Opcode.format, Opcode.instr, Instr.fields, nibbles_of_byte]

/-- Whatever the operand fields, a row's operation is of that row. -/
theorem fields_instr_opcode (o : Opcode) (a : BitVec 8) (d : BitVec 16) :
    (o.instr a d).fields.map Prod.fst = some o := by
  cases o <;> rfl

theorem opcode_eq_of_instr_eq {o o' : Opcode} {a : BitVec 8} {d : BitVec 16} (h : o.instr a d = o'.instr a d) :
    o = o' := by
  have hf := fields_instr_opcode o a d
  rw [h, fields_instr_opcode] at hf
  exact (Option.some.inj hf).symm

theorem encode_some {i : Instr} {o : Opcode} {a : BitVec 8} {d : BitVec 16} (h : i.fields = some (o, a, d)) :
    encode i = .command (commandWord o.code a d) := by
  rw [encode, h]

/-- Settles O1: `TICK` is the tick line, and a host command's word is a word of its row with the command's fields. -/
theorem decodeOfEncodeIsTheInstruction : Obligations.DecodeOfEncodeIsTheInstruction := by
  intro i
  cases hf : i.fields with
  | none =>
    obtain rfl := fields_none hf
    rfl
  | some f =>
    obtain ⟨o, a, d⟩ := f
    obtain ⟨hz, hi⟩ := fields_some hf
    calc decode (encode i)
      _ = decodeCommand (commandWord o.code a d) := by rw [encode_some hf, decode]
      _ = .ok (o.instr a d) := decodeCommand_commandWord hz
      _ = .ok i := by rw [hi]

/-- Settles O2: the decoded operation has the word's own row and fields, and a word is made of its fields. -/
theorem encodeOfDecodedWordIsTheWord : Obligations.EncodeOfDecodedWordIsTheWord := by
  intro w i h
  obtain ⟨o, ho, hz, rfl⟩ := decodeCommand_eq_ok h
  rw [encode_some (fields_instr hz), ← ho, commandWord_fields]

/-! ## Mask and match -/

theorem commandWord_and (p p' a a' : BitVec 8) (d d' : BitVec 16) :
    commandWord p a d &&& commandWord p' a' d' = commandWord (p &&& p') (a &&& a') (d &&& d') := by
  unfold commandWord
  exact (BitVec.and_append (w := 8 + 8)).trans (congrArg (· ++ (d &&& d')) BitVec.and_append)

theorem commandWord_inj {p p' a a' : BitVec 8} {d d' : BitVec 16} :
    commandWord p a d = commandWord p' a' d' ↔ p = p' ∧ a = a' ∧ d = d' := by
  refine ⟨fun h => ⟨?_, ?_, ?_⟩, fun ⟨hp, ha, hd⟩ => by rw [hp, ha, hd]⟩
  · simpa using congrArg opField h
  · simpa using congrArg aField h
  · simpa using congrArg dField h

/-- The match value of a row is its `op` above zero fields. -/
theorem code_shiftLeft (b : BitVec 8) : b.setWidth 32 <<< 24 = commandWord b 0#8 0#16 := by
  have h := BitVec.setWidth_append_append_eq_shiftLeft_setWidth_or (w''' := 32) (b := b) (b' := 0#8) (b'' := 0#16)
  simpa [commandWord] using h.symm

/-- A word against a mask that keeps whole fields. -/
theorem and_mask_iff (w : CmdWord) (b m : BitVec 8) (n : BitVec 16) :
    w &&& commandWord 0xFF#8 m n = b.setWidth 32 <<< 24 ↔
      opField w = b ∧ aField w &&& m = 0#8 ∧ dField w &&& n = 0#16 := by
  conv_lhs => rw [← commandWord_fields w, commandWord_and, code_shiftLeft, commandWord_inj]
  rw [show opField w &&& 0xFF#8 = opField w from BitVec.and_allOnes]

theorem decodeCommand_row_iff {w : CmdWord} {o : Opcode} :
    decodeCommand w = .ok (o.instr (aField w) (dField w)) ↔
      opField w = o.code ∧ unusedZero o.format (aField w) (dField w) = true := by
  refine ⟨fun h => ?_, fun ⟨ho, hz⟩ => decodeCommand_row ho hz⟩
  obtain ⟨o', ho, hz, hi⟩ := decodeCommand_eq_ok h
  obtain rfl := opcode_eq_of_instr_eq hi
  exact ⟨ho, hz⟩

/-- Settles O3, a format at a time: its mask keeps `op` and the fields the format does not use. -/
theorem wordsDecodeByMaskAndMatch : Obligations.WordsDecodeByMaskAndMatch := by
  intro w o
  rw [decodeCommand_row_iff]
  cases o.format with
  | n =>
    refine Iff.trans ?_ (and_mask_iff w o.code 0xFF#8 0xFFFF#16).symm
    rw [show aField w &&& 0xFF#8 = aField w from BitVec.and_allOnes,
      show dField w &&& 0xFFFF#16 = dField w from BitVec.and_allOnes]
    simp [unusedZero]
  | a =>
    refine Iff.trans ?_ (and_mask_iff w o.code 0x00#8 0xFFFF#16).symm
    rw [show dField w &&& 0xFFFF#16 = dField w from BitVec.and_allOnes]
    simp [unusedZero]
  | ad =>
    refine Iff.trans ?_ (and_mask_iff w o.code 0x00#8 0x0000#16).symm
    simp [unusedZero]

/-- Settles O4: an `op` of no row, then a word of a row by the row's format. -/
theorem reservedWordsAreRejectedByName : Obligations.ReservedWordsAreRejectedByName := by
  refine fun w => ⟨decodeCommand_reserved, fun o ho => ⟨fun hf h => ?formatN, fun hf h => ?formatA⟩⟩
  case formatN =>
    refine decodeCommand_row_unused ho ?_
    obtain h | h := h <;> simp [hf, unusedZero, h]
  case formatA =>
    refine decodeCommand_row_unused ho ?_
    simp [hf, unusedZero, h]

/-- Settles O5, by running the decoder on each row. -/
theorem specWordsDecode : Obligations.SpecWordsDecode := by
  unfold Obligations.SpecWordsDecode
  decide

/-! ## The step -/

/-- A 32-bit row that decodes is a command word at the port. -/
theorem decodeTableWord_command {w : Nat} {i : Instr} (h : decodeTableWord 32 w = some i) :
    ∃ c : CmdWord, selectorOf 32 w = some (.command c) ∧ decodeCommand c = .ok i := by
  unfold decodeTableWord at h
  by_cases hw : w < 4294967296
  · have hs : selectorOf 32 w = some (.command (BitVec.ofNat 32 w)) := if_pos hw
    refine ⟨_, hs, ?_⟩
    simp only [hs, decode] at h
    cases hd : decodeCommand (BitVec.ofNat 32 w) with
    | ok j =>
      rw [hd] at h
      exact congrArg Decoded.ok (Option.some.inj h)
    | rejected e =>
      rw [hd] at h
      nomatch h
  · have hs : selectorOf 32 w = none := if_neg hw
    simp [hs] at h

end Sys2Proof

namespace Sys2Proof.Machine

theorem withFetchWord_eq {s : State} {nbits w : Nat} {sel : Selector} (h : selectorOf nbits w = some sel) :
    s.withFetchWord nbits w = s.present sel := by
  rw [State.withFetchWord, h]

theorem step_present_command {c : CmdWord} {i : Instr} (h : decodeCommand c = .ok i) (s : State) :
    step (s.present (.command c)) = exec i { s with cont := [] } :=
  step_host_word (s := s.present (.command c)) rfl rfl rfl h

theorem step_present_tickLine (s : State) : step (s.present .tickLine) = exec .tick s :=
  step_cons (s := s.present .tickLine) rfl

/-- Settles O8: the row is a selection, and a presented selection is what the next step runs. -/
theorem presentedSelectionRunsNext : Obligations.PresentedSelectionRunsNext := by
  refine ⟨fun s w i h => ?command, fun s => ?tickLine⟩
  case command =>
    obtain ⟨c, hc, hd⟩ := decodeTableWord_command h
    rw [withFetchWord_eq hc]
    exact step_present_command hd s
  case tickLine => exact step_present_tickLine s

/-- A refusal of an illegal word writes the response alone, with the code by `HALT` and the word's `op` (R101). -/
theorem illegalWord_eq (w : CmdWord) (s : State) : illegalWord w s =
    { s with resp := refusedWith (if s.halt = true ∧ readsOnly w = false then 3#32 else 1#32) } := by
  by_cases h : s.halt = true ∧ readsOnly w = false
  · rw [if_pos h, illegalWord, if_pos (by simp [h])]
    rfl
  · rw [if_neg h, illegalWord, if_neg (by simpa using h)]
    rfl

/-- Settles O9, by the idle HOST agent's move on a word the decoder rejects. -/
theorem illegalWordIsRefusedAndNothingChanges : Obligations.IllegalWordIsRefusedAndNothingChanges := by
  intro s w words rest e hs hc hp hd
  calc step s
    _ = move .host { s with sched := rest } := step_cons hs
    _ = issueWord w { s with sched := rest, port := words } := hostMove_word hc hp
    _ = .next (illegalWord w { s with sched := rest, port := words }) := issueWord_rejected hd _
    _ = _ := congrArg Host.Outcome.next (illegalWord_eq w _)

end Sys2Proof.Machine
end

section
/-! PROOFS of the access family (`spec/40_access.md`): a legal operand reaches the command's body, an element write is
one element, and what a CSR write does by register and value. -/

namespace Sys2Proof.Machine

/-! ## Operands in range -/

section
variable {α : Type} {o : Option α} {x : α} {s : State} {k : α → Result}

theorem inRange_runs (ho : o = some x) : inRange o s k = k x := by
  rw [ho, inRange_some]

theorem whenRunning_inRange_runs (hh : s.halt = false) (ho : o = some x) : whenRunning s (inRange o s k) = k x := by
  rw [whenRunning_run hh, inRange_runs ho]

end

/-! ## One element written -/

theorem set_getElem_fin_val {α : Type} {n : Nat} (v : Vector α n) (i j : Fin n) (x : α) :
    (v.set i x)[j] = if j.val = i.val then x else v[j] := by
  rw [set_getElem_fin]
  simp only [Fin.ext_iff]

theorem State.setGlyph_getElem (s : State) (p q : Fin 3) (k j : Fin 5) (v : Row) :
    (s.setGlyph p k v).glyph[q][j] = if q.val = p.val ∧ j.val = k.val then v else s.glyph[q][j] := by
  rw [State.setGlyph_glyph, set_getElem_fin]
  by_cases hq : q = p
  · subst hq
    simp only [if_true, true_and, set_getElem_fin_val]
  · have hne : ¬(q.val = p.val ∧ j.val = k.val) := fun h => hq (Fin.ext h.1)
    rw [if_neg hq, if_neg hne]

/-- Settles O14: a legal row index selects the row, whatever `HALT` is. -/
theorem rowReadsReturnTheStoredRow : Obligations.RowReadsReturnTheStoredRow :=
  fun _ _ h => ⟨inRange_runs (rowIndex_lt h), inRange_runs (rowIndex_lt h), inRange_runs (rowIndex_lt h)⟩

/-- Settles O15: past the `HALT` and index checks each of the three is one element write of its layer. -/
theorem rowWritesChangeOneRow : Obligations.RowWritesChangeOneRow :=
  fun _ _ _ hh h =>
    ⟨⟨_, whenRunning_inRange_runs hh (rowIndex_lt h), fun j => set_getElem_fin_val _ _ j _, rfl⟩,
      ⟨_, whenRunning_inRange_runs hh (rowIndex_lt h), fun j => set_getElem_fin_val _ _ j _, rfl⟩,
      ⟨_, whenRunning_inRange_runs hh (rowIndex_lt h), fun j => set_getElem_fin_val _ _ j _, rfl⟩⟩

/-- Settles O16, like the rows of a layer; a glyph row is selected by two indices. -/
theorem overlayBufferAccess : Obligations.OverlayBufferAccess :=
  ⟨fun _ _ h => ⟨inRange_runs (previewIndex_lt h), fun _ hh =>
      ⟨_, whenRunning_inRange_runs hh (previewIndex_lt h), fun j => set_getElem_fin_val _ _ j _, rfl⟩⟩,
    fun s _ _ hp hk => ⟨inRange_runs (glyphIndex_lt hp hk), fun v hh =>
      ⟨_, whenRunning_inRange_runs hh (glyphIndex_lt hp hk), fun q j => s.setGlyph_getElem _ q _ j v, rfl⟩⟩⟩

/-! ## Writing a CSR -/

/-- The CSRs that R37 gives no write. -/
def Csr.isReadOnly : Csr → Bool
  | .status | .scan | .msTick | .debTick | .level | .digits => true
  | .score | .anchorX | .anchorY | .cur | .next => false

section
variable {s : State} {v : BitVec 16}

theorem writeCsr_readOnly {c : Csr} (h : c.isReadOnly = true) : writeCsr c v s = s.refuse .csr := by
  cases c with
  | status | scan | msTick | debTick | level | digits => rfl
  | score | anchorX | anchorY | cur | next => exact absurd h Bool.false_ne_true

theorem writeCsr_score (h : v.toNat < 2 ^ s.cfg.scoreW) :
    writeCsr .score v s = { s with score := v.toNat, resp := ranWith 0#32 } := by
  rw [writeCsr, counterValue_lt h]
  rfl

theorem writeCsr_score_refuses (h : 2 ^ s.cfg.scoreW ≤ v.toNat) : writeCsr .score v s = s.refuse .range := by
  rw [writeCsr, counterValue_ge h]

theorem writeCsr_anchorX (h : v.toNat ≤ 15) :
    writeCsr .anchorX v s = { s with anchorX := BitVec.ofNat 4 v.toNat, resp := ranWith 0#32 } := by
  rw [writeCsr, if_neg (Nat.not_lt.mpr h), BitVec.ofNat_toNat]
  rfl

theorem writeCsr_anchorX_refuses (h : 15 < v.toNat) : writeCsr .anchorX v s = s.refuse .range := by
  rw [writeCsr, if_pos h]

theorem writeCsr_anchorY (h : v.toNat ≤ 31) :
    writeCsr .anchorY v s = { s with anchorY := BitVec.ofNat 5 v.toNat, resp := ranWith 0#32 } := by
  rw [writeCsr, if_neg (Nat.not_lt.mpr h), BitVec.ofNat_toNat]
  rfl

theorem writeCsr_anchorY_refuses (h : 31 < v.toNat) : writeCsr .anchorY v s = s.refuse .range := by
  rw [writeCsr, if_pos h]

theorem writeCsr_cur (h : v.toNat < 7) :
    writeCsr .cur v s = { s with cur := ⟨v.toNat, h⟩, resp := ranWith 0#32 } := by
  rw [writeCsr, pieceValue_lt h]
  rfl

theorem writeCsr_cur_refuses (h : 6 < v.toNat) : writeCsr .cur v s = s.refuse .range := by
  rw [writeCsr, pieceValue_ge h]

theorem writeCsr_next (h : v.toNat < 7) :
    writeCsr .next v s = { s with nextPiece := ⟨v.toNat, h⟩, resp := ranWith 0#32 } := by
  rw [writeCsr, pieceValue_lt h]
  rfl

theorem writeCsr_next_refuses (h : 6 < v.toNat) : writeCsr .next v s = s.refuse .range := by
  rw [writeCsr, pieceValue_ge h]

/-- Not halted, `WRCSR` of a number of the table is the write of its register. -/
theorem exec_wrcsr {n : BitVec 8} (c : Csr) {t : State} (hh : s.halt = false) (hc : csrOf n = some c)
    (ht : writeCsr c v s = t) : exec (.wrcsr n v) s = .next t := by
  simp only [exec, execWrcsr, whenRunning_run hh, hc, ht]

theorem exec_wrcsr_reserved {n : BitVec 8} (hh : s.halt = false) (hc : csrOf n = none) :
    exec (.wrcsr n v) s = .next (s.refuse .csr) := by
  simp only [exec, execWrcsr, whenRunning_run hh, hc]

end

/-- The numbers without a write are those of the read-only registers and the reserved ones (R37). -/
theorem csrOf_notWritable {n : BitVec 8} (h : n.toNat ≤ 3 ∨ n = 0x05#8 ∨ 0x0A ≤ n.toNat) :
    csrOf n = none ∨ ∃ c : Csr, c.isReadOnly = true ∧ csrOf n = some c := by
  obtain hlow | rfl | hhigh := h
  · have hn : n = 0#8 ∨ n = 1#8 ∨ n = 2#8 ∨ n = 3#8 := by bv_omega
    obtain rfl | rfl | rfl | rfl := hn <;> exact .inr ⟨_, rfl, rfl⟩
  · exact .inr ⟨.level, rfl, rfl⟩
  · obtain heq | hlt := Nat.eq_or_lt_of_le hhigh
    · obtain rfl : n = 0x0A#8 := BitVec.eq_of_toNat_eq heq.symm
      exact .inr ⟨.digits, rfl, rfl⟩
    · exact .inl (csrOf_reserved hlt)

theorem exec_wrcsr_notWritable {n : BitVec 8} {s : State} (v : BitVec 16) (hh : s.halt = false)
    (h : n.toNat ≤ 3 ∨ n = 0x05#8 ∨ 0x0A ≤ n.toNat) : exec (.wrcsr n v) s = .next (s.refuse .csr) := by
  obtain hc | ⟨c, hro, hc⟩ := csrOf_notWritable h
  · exact exec_wrcsr_reserved hh hc
  · exact exec_wrcsr c hh hc (writeCsr_readOnly hro)

/-- With `SCOREW = 16` every value fits `SCORE` (R122). -/
theorem score_fits {s : State} {v : BitVec 16} (h : s.cfg.scoreW = 16 ∨ v.toNat < 2 ^ s.cfg.scoreW) :
    v.toNat < 2 ^ s.cfg.scoreW := by
  obtain h | h := h
  · rw [h]
    exact v.isLt
  · exact h

/-- Settles O21: a number that has no write, then each writable register by the value. -/
theorem csrWriteEffects : Obligations.CsrWriteEffects := fun _ v hh =>
  ⟨fun _ hn => exec_wrcsr_notWritable v hh hn,
    fun h => exec_wrcsr .score hh rfl (writeCsr_score (score_fits h)),
    fun h => exec_wrcsr .score hh rfl (writeCsr_score_refuses h),
    fun h => exec_wrcsr .anchorX hh rfl (writeCsr_anchorX_refuses h),
    fun h => exec_wrcsr .anchorX hh rfl (writeCsr_anchorX h),
    fun h => exec_wrcsr .anchorY hh rfl (writeCsr_anchorY_refuses h),
    fun h => exec_wrcsr .anchorY hh rfl (writeCsr_anchorY h),
    fun h => ⟨exec_wrcsr .cur hh rfl (writeCsr_cur_refuses h), exec_wrcsr .next hh rfl (writeCsr_next_refuses h)⟩,
    fun h => ⟨exec_wrcsr .cur hh rfl (writeCsr_cur h), exec_wrcsr .next hh rfl (writeCsr_next h)⟩⟩

/-! ## Commands without an operand -/

/-- Settles O22: `NOP` has no `HALT` check, and past theirs the clears write one counter. -/
theorem nopAndCounterClears : Obligations.NopAndCounterClears :=
  ⟨fun _ => rfl, fun _ hh => ⟨whenRunning_run hh _, whenRunning_run hh _⟩⟩

end Sys2Proof.Machine
end

section
/-! PROOFS of the movement family (`spec/41_movement.md`): the shifted overlap tests, a shift command by its guards, the
descent, and the lock path of `DESC` as three commands, whose line clear ends because each clear takes one complete
row away. -/

namespace Sys2Proof.Machine

/-! ## Overlap of shifted rows (R144) -/

theorem overlap_comm (p q : Row) : overlap p q = overlap q p := by
  rw [overlap, overlap, BitVec.and_comm]

/-- The products of the bits are the same fifteen: bit b of p with bit b + 1 of q. -/
theorem shl_and_eq_zero_iff {p q : Row} : p <<< 1 &&& q = 0#16 ↔ p &&& q >>> 1 = 0#16 := by
  rw [row_and_eq_zero, row_and_eq_zero]
  constructor
  · intro h b hb
    rw [BitVec.getLsbD_ushiftRight]
    by_cases hlt : 1 + b.val < 16
    · refine h ⟨1 + b.val, hlt⟩ ?_
      simpa [BitVec.getLsbD_shiftLeft, hlt] using hb
    · exact BitVec.getLsbD_of_ge _ _ (Nat.not_lt.mp hlt)
  · intro h b hb
    rw [BitVec.getLsbD_shiftLeft] at hb
    simp only [Bool.and_eq_true, Bool.not_eq_true', decide_eq_true_eq, decide_eq_false_iff_not] at hb
    obtain ⟨⟨-, hpos⟩, hb⟩ := hb
    have hq := h ⟨b.val - 1, by omega⟩ hb
    rw [BitVec.getLsbD_ushiftRight] at hq
    rwa [show b.val = 1 + (b.val - 1) by omega]

theorem overlap_shl16 (p q : Row) : overlap (shl16 p) q = overlap p (shr16 q) := by
  rw [Bool.eq_iff_iff, overlap_eq_true, overlap_eq_true]
  exact not_congr shl_and_eq_zero_iff

/-- Settles O30: the second form is the first with the rows exchanged. -/
theorem shiftedOverlapFormsAgree : Obligations.ShiftedOverlapFormsAgree := fun p q =>
  ⟨overlap_shl16 p q,
    calc overlap (shr16 p) q
      _ = overlap q (shr16 p) := overlap_comm _ _
      _ = overlap (shl16 q) p := (overlap_shl16 q p).symm
      _ = overlap p (shl16 q) := overlap_comm _ _⟩

/-! ## The collision tester (R141 to R143) -/

theorem forall_inFoot {c : Config} {y : BitVec 5} {P : Fin 32 → Prop} :
    (∀ r, inFoot c y r = true → P r) ↔
      ∀ r : Fin 32, y.toNat ≤ r.val + c.footUp → r.val ≤ y.toNat + c.footDn → P r := by
  simp only [inFoot_iff, and_imp]

section
variable {s : State}

theorem canShiftLeft_eq_true : canShiftLeft s = true ↔
    ∀ r : Fin 32, s.anchorY.toNat ≤ r.val + s.cfg.footUp → r.val ≤ s.anchorY.toNat + s.cfg.footDn →
      s.active[r] <<< 1 &&& s.terrain[r] = 0#16 :=
  canShiftLeft_iff.trans forall_inFoot

theorem canShiftRight_eq_true : canShiftRight s = true ↔
    ∀ r : Fin 32, s.anchorY.toNat ≤ r.val + s.cfg.footUp → r.val ≤ s.anchorY.toNat + s.cfg.footDn →
      s.active[r] >>> 1 &&& s.terrain[r] = 0#16 :=
  canShiftRight_iff.trans forall_inFoot

theorem canShiftLeft_eq_false : canShiftLeft s = false ↔
    ∃ r : Fin 32, s.anchorY.toNat ≤ r.val + s.cfg.footUp ∧ r.val ≤ s.anchorY.toNat + s.cfg.footDn ∧
      s.active[r] <<< 1 &&& s.terrain[r] ≠ 0#16 := by
  simp only [← Bool.not_eq_true, canShiftLeft_eq_true, not_forall, exists_prop, ne_eq]

theorem canShiftRight_eq_false : canShiftRight s = false ↔
    ∃ r : Fin 32, s.anchorY.toNat ≤ r.val + s.cfg.footUp ∧ r.val ≤ s.anchorY.toNat + s.cfg.footDn ∧
      s.active[r] >>> 1 &&& s.terrain[r] ≠ 0#16 := by
  simp only [← Bool.not_eq_true, canShiftRight_eq_true, not_forall, exists_prop, ne_eq]

theorem canDescend_eq_false : canDescend s = false ↔
    ¬(s.active[31] = 0#16 ∧ ∀ i : Fin 31, s.active[i.val] &&& s.terrain[i.val + 1] = 0#16) :=
  Bool.eq_false_iff.trans (not_congr canDescend_iff)

theorem answers_one {b : Bool} (h : b = true) :
    (.next (s.answer b) : Result) = .next { s with resp := ranWith 1#32 } := by
  rw [h]
  rfl

theorem answers_zero {b : Bool} (h : b = false) :
    (.next (s.answer b) : Result) = .next { s with resp := ranWith 0#32 } := by
  rw [h]
  rfl

end

/-- Settles O28: `CANDESC` answers the predicate. -/
theorem canDescendTest : Obligations.CanDescendTest := fun _ =>
  ⟨fun h => answers_one (canDescend_iff.mpr h), fun h => answers_zero (canDescend_eq_false.mpr h)⟩

/-- Settles O29: `CANSHL` and `CANSHR` answer their predicates. -/
theorem canShiftTests : Obligations.CanShiftTests := fun _ =>
  ⟨fun h => answers_one (canShiftLeft_eq_true.mpr h), fun h => answers_zero (canShiftLeft_eq_false.mpr h),
    fun h => answers_one (canShiftRight_eq_true.mpr h), fun h => answers_zero (canShiftRight_eq_false.mpr h)⟩

/-! ## A command that moves the piece by one position -/

/-- The shape `SHL` and `SHR` share (R145, R146): nothing where the test fails, code 5 where the anchor is at the
edge, else the moved piece `u` and the composition. -/
def shiftCommand (ok : Bool) (edge : Prop) [Decidable edge] (s u : State) : Result :=
  whenRunning s <|
    if ok then if edge then .next (s.refuse .geometry) else .next (u.issue composeAndRespond)
    else .next (s.respond 0#32)

theorem exec_shl (s : State) : exec .shl s = shiftCommand (canShiftLeft s) (s.anchorX = 15#4) s (shiftLeft s) := rfl

theorem exec_shr (s : State) : exec .shr s = shiftCommand (canShiftRight s) (s.anchorX = 0#4) s (shiftRight s) := rfl

section
variable {ok : Bool} {edge : Prop} [Decidable edge] {s t u : State}

theorem shiftCommand_blocked (hh : s.halt = false) (hok : ok = false) :
    shiftCommand ok edge s u = .next { s with resp := ranWith 0#32 } := by
  rw [shiftCommand, whenRunning_run hh, hok]
  rfl

theorem shiftCommand_edge (hh : s.halt = false) (hok : ok = true) (he : edge) :
    shiftCommand ok edge s u = .next { s with resp := refusedWith 5#32 } := by
  rw [shiftCommand, whenRunning_run hh, if_pos hok, if_pos he]
  rfl

theorem shiftCommand_moves (hh : s.halt = false) (hok : ok = true) (he : ¬edge) :
    shiftCommand ok edge s u = .next (u.issue composeAndRespond) := by
  rw [shiftCommand, whenRunning_run hh, if_pos hok, if_neg he]

/-- Only the committed move leaves the response open. -/
theorem shiftCommand_committed (h : shiftCommand ok edge s u = .next t) (hr : t.resp = none) :
    t = u.issue composeAndRespond := by
  obtain ⟨-, rfl⟩ | ⟨-, hk⟩ := whenRunning_next h
  · cases hr
  · split at hk
    · split at hk
      · cases hk
        cases hr
      · exact (Host.Outcome.next.inj hk).symm
    · cases hk
      cases hr

end

theorem footprint_ite {α : Type} {c : Config} {y : BitVec 5} {r : Fin 32} {a b : α} :
    (if inFoot c y r = true then a else b) =
      if y.toNat ≤ r.val + c.footUp ∧ r.val ≤ y.toNat + c.footDn then a else b :=
  ite_congr (propext inFoot_iff) (fun _ => rfl) fun _ => rfl

theorem toNat_anchorX_add_one {x : BitVec 4} (h : x ≠ 15#4) : (x + 1#4).toNat = x.toNat + 1 := by
  bv_omega

theorem toNat_anchorX_sub_one {x : BitVec 4} (h : x ≠ 0#4) : (x - 1#4).toNat + 1 = x.toNat := by
  bv_omega

/-- Settles O31, by the test and the anchor. -/
theorem shiftLeftEffect : Obligations.ShiftLeftEffect := fun s hh =>
  ⟨fun h => shiftCommand_blocked hh (canShiftLeft_eq_false.mpr h), fun h =>
    have hok := canShiftLeft_eq_true.mpr h
    ⟨shiftCommand_edge hh hok, fun hx =>
      ⟨_, shiftCommand_moves hh hok hx, fun r => (shiftLeft_active s r).trans footprint_ite,
        toNat_anchorX_add_one hx, rfl⟩⟩⟩

/-- Settles O32, like the left shift. -/
theorem shiftRightEffect : Obligations.ShiftRightEffect := fun s hh =>
  ⟨fun h => shiftCommand_blocked hh (canShiftRight_eq_false.mpr h), fun h =>
    have hok := canShiftRight_eq_true.mpr h
    ⟨shiftCommand_edge hh hok, fun hx =>
      ⟨_, shiftCommand_moves hh hok hx, fun r => (shiftRight_active s r).trans footprint_ite,
        toNat_anchorX_sub_one hx, rfl⟩⟩⟩

/-! ## Left and right again (R149) -/

theorem shiftLeft_shiftRight_row {p : Row} (h : p.getLsbD 15 = false) : p <<< 1 >>> 1 = p := by
  refine BitVec.eq_of_getLsbD_eq fun b hb => ?_
  rw [BitVec.getLsbD_ushiftRight, BitVec.getLsbD_shiftLeft]
  obtain rfl | hlt : b = 15 ∨ 1 + b < 16 := by omega
  · exact h.symm
  · simp [hlt]

theorem shiftRight_after_shiftLeft_active {s t : State} {ms : List Micro}
    (h15 : ∀ r : Fin 32, inFoot s.cfg s.anchorY r = true → s.active[r].getLsbD 15 = false)
    (h : SamePiece ((shiftLeft s).issue ms) t) : (shiftRight t).active = s.active := by
  refine vector_ext fun r => ?_
  rw [shiftRight_active, h.cfg, h.anchorY, h.active, State.issue_active, shiftLeft_active]
  simp only [State.issue_cfg, State.issue_anchorY, shiftLeft_cfg, shiftLeft_anchorY]
  split
  · exact shiftLeft_shiftRight_row (h15 r ‹_›)
  · rfl

/-- Settles O33: with bit 15 clear in the footprint the left shift loses nothing. -/
theorem shiftLeftThenRightRestores : Obligations.ShiftLeftThenRightRestores := by
  intro s t t' u _ h15 hl hlr hsame hr hrr
  obtain rfl := shiftCommand_committed hl hlr
  obtain rfl := shiftCommand_committed hr hrr
  refine ⟨shiftRight_after_shiftLeft_active h15 hsame, ?anchorX, hsame.anchorY⟩
  calc t'.anchorX - 1#4
    _ = s.anchorX + 1#4 - 1#4 := congrArg (· - 1#4) hsame.anchorX
    _ = s.anchorX := BitVec.add_sub_cancel _ _

/-! ## Lock and descent -/

theorem lockPiece_terrain (s : State) (i : Fin 32) : (lockPiece s).terrain[i] = s.terrain[i] ||| s.active[i] :=
  tabulate_getElem_fin _ i

theorem exec_lock {s : State} (hh : s.halt = false) : exec .lock s = .next ((lockPiece s).respond 0#32) :=
  whenRunning_run hh _

/-- Settles O34: past the `HALT` check `LOCK` is the union of the layers. -/
theorem lockMergesTheLayers : Obligations.LockMergesTheLayers := fun s hh =>
  ⟨_, exec_lock hh, lockPiece_terrain s, rfl⟩

section
variable {s : State} {r : BitVec 8} {t : Piece}

theorem exec_desc_edge (hh : s.halt = false) (hr : drawOperand r = some t) (hd : canDescend s = true)
    (hy : s.anchorY = 31#5) : exec (.desc r) s = .next { s with resp := refusedWith 5#32 } := by
  refine (whenRunning_inRange_runs hh hr).trans ?_
  rw [if_pos hd, if_pos hy]
  rfl

theorem exec_desc_down (hh : s.halt = false) (hr : drawOperand r = some t) (hd : canDescend s = true)
    (hy : s.anchorY ≠ 31#5) : exec (.desc r) s = .next ((shiftDown s).issue composeAndRespond) := by
  refine (whenRunning_inRange_runs hh hr).trans ?_
  rw [if_pos hd, if_neg hy]

theorem exec_desc_lands {u : State} (hh : s.halt = false) (hr : drawOperand r = some t) (hd : canDescend s = false)
    (hu : lineClear (lockPiece s) = some u) : exec (.desc r) s = .next (spawnBody t u) := by
  refine (whenRunning_inRange_runs hh hr).trans ?_
  rw [if_neg (Bool.eq_false_iff.mp hd), hu]

theorem exec_lclr {u : State} (hh : s.halt = false) (hu : lineClear s = some u) :
    exec .lclr s = .next (u.respond 0#32) := by
  refine (whenRunning_run hh _).trans ?_
  rw [hu]

theorem exec_spawn (hh : s.halt = false) (hr : drawOperand r = some t) :
    exec (.spawn r) s = .next (spawnBody t s) :=
  whenRunning_inRange_runs hh hr

end

theorem shiftDown_active_succ (s : State) (i : Fin 31) : (shiftDown s).active[i.val + 1] = s.active[i.val] :=
  shiftDown_active s i.succ

/-- Settles O35: where the piece can descend, by the anchor. -/
theorem descendShiftPath : Obligations.DescendShiftPath := fun s _ hh hr h =>
  have hd := canDescend_iff.mpr h
  have ht := drawOperand_lt (Nat.lt_succ_of_le hr)
  ⟨exec_desc_edge hh ht hd, fun hy =>
    ⟨_, exec_desc_down hh ht hd hy, shiftDown_active s 0, shiftDown_active_succ s, toNat_add_one_of_ne hy, rfl⟩⟩

/-! ## The line clear ends (R182) -/

section
variable {n : Nat} {r : Fin 32} {s : State}

theorem lineClearFrom_done (hr : r.val < 8) : lineClearFrom n r s = some s := by
  cases n with
  | zero => exact if_pos hr
  | succ n => exact if_pos hr

theorem lineClearFrom_clear (hr : 8 ≤ r.val) (hc : s.terrain[r] = s.cfg.complete) :
    lineClearFrom (n + 1) r s = lineClearFrom n r (clearLine r s) := by
  rw [lineClearFrom, if_neg (Nat.not_lt.mpr hr), isComplete, beq_iff_eq.mpr hc, if_pos rfl]

theorem lineClearFrom_skip (hr : 8 ≤ r.val) (hc : s.terrain[r] ≠ s.cfg.complete) :
    lineClearFrom (n + 1) r s = lineClearFrom n (r - 1) s := by
  rw [lineClearFrom, if_neg (Nat.not_lt.mpr hr), isComplete, beq_false_of_ne hc, if_neg Bool.false_ne_true]

end

theorem compact_row (c : Config) (r : Nat) (v : Rows) (i : Fin 32) : (compact c r v)[i] =
    if i.val = 8 then c.wallMask else if 8 < i.val ∧ i.val ≤ r then v[i.val - 1] else v[i] :=
  tabulate_getElem_fin _ i

/-- The complete rows the loop has still to meet when it is at row r. -/
def completeRows (c : Config) (v : Rows) (r : Fin 32) : Finset (Fin 32) :=
  {i | 8 ≤ i.val ∧ i.val ≤ r.val ∧ v[i] = c.complete}

theorem mem_completeRows {c : Config} {v : Rows} {r i : Fin 32} :
    i ∈ completeRows c v r ↔ 8 ≤ i.val ∧ i.val ≤ r.val ∧ v[i] = c.complete := by
  simp [completeRows]

/-- After a clear at row r a complete row is one that was one row higher: the row put in at the top is not complete. -/
theorem complete_of_mem_compact {c : Config} (hw : c.wallMask ≠ c.complete) {v : Rows} {r i : Fin 32}
    (hi : i ∈ completeRows c (compact c r.val v) r) :
    8 < i.val ∧ i.val ≤ r.val ∧ v[i.val - 1] = c.complete := by
  obtain ⟨h8, hir, hrow⟩ := mem_completeRows.mp hi
  rw [compact_row] at hrow
  split at hrow
  · exact absurd hrow hw
  · have h : 8 < i.val ∧ i.val ≤ r.val := ⟨by omega, hir⟩
    rw [if_pos h] at hrow
    exact ⟨h.1, h.2, hrow⟩

/-- A clear takes one complete row away: those that are left stood at other rows than r. -/
theorem card_completeRows_compact {c : Config} (hw : c.wallMask ≠ c.complete) {v : Rows} {r : Fin 32}
    (hr : 8 ≤ r.val) (hc : v[r] = c.complete) :
    (completeRows c (compact c r.val v) r).card < (completeRows c v r).card := by
  have hle : (completeRows c (compact c r.val v) r).card ≤ ((completeRows c v r).erase r).card := by
    refine Finset.card_le_card_of_injOn (fun i => ⟨i.val - 1, by omega⟩) (fun i hi => ?_) fun i hi j hj hij => ?_
    · obtain ⟨h8, hir, hrow⟩ := complete_of_mem_compact hw hi
      exact Finset.mem_erase.mpr ⟨Fin.ne_of_val_ne (show i.val - 1 ≠ r.val by omega),
        mem_completeRows.mpr ⟨show 8 ≤ i.val - 1 by omega, show i.val - 1 ≤ r.val by omega, hrow⟩⟩
    · obtain ⟨hi8, -⟩ := complete_of_mem_compact hw hi
      obtain ⟨hj8, -⟩ := complete_of_mem_compact hw hj
      have hval : i.val - 1 = j.val - 1 := Fin.val_eq_of_eq hij
      omega
  exact hle.trans_lt (Finset.card_erase_lt_of_mem (mem_completeRows.mpr ⟨hr, le_rfl, hc⟩))

theorem card_completeRows_pred (c : Config) (v : Rows) {r : Fin 32} (hr : 8 ≤ r.val) :
    (completeRows c v (r - 1)).card ≤ (completeRows c v r).card := by
  refine Finset.card_le_card fun i hi => ?_
  obtain ⟨h8, hir, hrow⟩ := mem_completeRows.mp hi
  exact mem_completeRows.mpr ⟨h8, by omega, hrow⟩

theorem card_completeRows_le (c : Config) (v : Rows) (r : Fin 32) : (completeRows c v r).card ≤ 24 :=
  calc (completeRows c v r).card
    _ ≤ (Finset.Icc (8 : Fin 32) 31).card := Finset.card_le_card fun i hi => by
      obtain ⟨h8, -⟩ := mem_completeRows.mp hi
      exact Finset.mem_Icc.mpr ⟨h8, Fin.le_last i⟩
    _ = 24 := rfl

/-- Each iteration lowers r or clears a complete row, so the rows from 8 to r and the complete ones among them bound the
iterations. -/
theorem lineClearFrom_ends : ∀ (n : Nat) (r : Fin 32) (s : State), s.cfg.wallMask ≠ s.cfg.complete →
    r.val + (completeRows s.cfg s.terrain r).card ≤ n + 7 → ∃ t, lineClearFrom n r s = some t := by
  intro n
  induction n with
  | zero => exact fun r s _ hn => ⟨s, lineClearFrom_done (by omega)⟩
  | succ n ih =>
    intro r s hw hn
    by_cases hr : r.val < 8
    · exact ⟨s, lineClearFrom_done hr⟩
    · have hr := Nat.not_lt.mp hr
      by_cases hc : s.terrain[r] = s.cfg.complete
      · rw [lineClearFrom_clear hr hc]
        have hless := card_completeRows_compact hw hr hc
        refine ih r (clearLine r s) hw ?_
        rw [clearLine_cfg, clearLine_terrain]
        omega
      · rw [lineClearFrom_skip hr hc]
        have hless := card_completeRows_pred s.cfg s.terrain hr
        exact ih (r - 1) s hw (by omega)

theorem lineClear_ends {s : State} (hw : s.cfg.wallMask ≠ s.cfg.complete) : ∃ t, lineClear s = some t := by
  have h24 := card_completeRows_le s.cfg s.terrain 31
  exact lineClearFrom_ends 48 31 s hw (Nat.add_le_add_left h24 31)

/-! ## The lock path as three commands (R148) -/

/-- The line clear does not read the response of the command before it. -/
theorem lineClearFrom_respond (v : RespWord) : ∀ (n : Nat) (r : Fin 32) (s : State),
    lineClearFrom n r (s.respond v) = (lineClearFrom n r s).map (·.respond v) := by
  intro n
  induction n with
  | zero =>
    intro r s
    simp only [lineClearFrom]
    split <;> rfl
  | succ n ih =>
    intro r s
    by_cases hr : r.val < 8
    · rw [lineClearFrom_done hr, lineClearFrom_done hr, Option.map_some]
    · have hr := Nat.not_lt.mp hr
      by_cases hc : s.terrain[r] = s.cfg.complete
      · rw [lineClearFrom_clear hr hc, lineClearFrom_clear (s := s.respond v) hr hc]
        exact ih r (clearLine r s)
      · rw [lineClearFrom_skip hr hc, lineClearFrom_skip (s := s.respond v) hr hc]
        exact ih (r - 1) s

theorem lineClear_respond {s u : State} (h : lineClear s = some u) (v : RespWord) :
    lineClear (s.respond v) = some (u.respond v) :=
  (lineClearFrom_respond v 48 31 s).trans (congrArg (Option.map (·.respond v)) h)

/-- A spawn opens the response again, whatever it was. -/
theorem spawnBody_respond (r : Piece) (s : State) (v : RespWord) : spawnBody r (s.respond v) = spawnBody r s := rfl

/-- Settles O36: the line clear ends, and neither it nor the spawn reads the response of the command before it. -/
theorem descendLockPathIsLockClearSpawn : Obligations.DescendLockPathIsLockClearSpawn := by
  intro s r hh hr hw hd
  have ht := drawOperand_lt (Nat.lt_succ_of_le hr)
  obtain ⟨u, hu⟩ := lineClear_ends (s := lockPiece s) hw
  have huh : u.halt = false := (lineClear_halt hu).trans hh
  refine ⟨(lockPiece s).respond 0#32, (u.respond 0#32).respond 0#32, spawnBody _ u, exec_lock hh,
    exec_lclr hh (lineClear_respond hu _), ?spawn, exec_desc_lands hh ht (canDescend_eq_false.mpr hd) hu⟩
  calc exec (.spawn r) ((u.respond 0#32).respond 0#32)
    _ = .next (spawnBody _ ((u.respond 0#32).respond 0#32)) := exec_spawn huh ht
    _ = .next (spawnBody _ u) := by rw [spawnBody_respond, spawnBody_respond]

end Sys2Proof.Machine
end

section
/-! PROOFS of the rotation family (`spec/42_rotation.md`): `ROT` by its guards, the quarter turn of the 3 by 3
neighbourhood, and the toggle of the I piece cell by cell. -/

namespace Sys2Proof.Machine

/-! ## `ROT` by its guards (R160) -/

section
variable {s t : State} {old new : List Cell}

theorem exec_rot_outside3 (hh : s.halt = false) (hi : s.cfg.isI s.cur = false) (hm : margins3 s = false) :
    exec .rot s = .next { s with resp := refusedWith 5#32 } := by
  refine (whenRunning_run hh _).trans ?_
  rw [hi, hm]
  rfl

theorem exec_rot_collides3 (hh : s.halt = false) (hi : s.cfg.isI s.cur = false) (hm : margins3 s = true)
    (hc : collides3 s = true) : exec .rot s = .next { s with resp := ranWith 0#32 } := by
  refine (whenRunning_run hh _).trans ?_
  rw [hi, hm, hc]
  rfl

theorem exec_rot_turns (hh : s.halt = false) (hi : s.cfg.isI s.cur = false) (hm : margins3 s = true)
    (hc : collides3 s = false) : exec .rot s = .next ((rotate3 s).issue composeAndRespond) := by
  refine (whenRunning_run hh _).trans ?_
  rw [hi, hm, hc]
  rfl

theorem exec_rot_outsideI (hh : s.halt = false) (hi : s.cfg.isI s.cur = true) (hm : marginsI s = false) :
    exec .rot s = .next { s with resp := refusedWith 5#32 } := by
  refine (whenRunning_run hh _).trans ?_
  rw [hi, hm]
  rfl

theorem exec_rot_noOrientation (hh : s.halt = false) (hi : s.cfg.isI s.cur = true) (hm : marginsI s = true)
    (ho : orientation s = none) : exec .rot s = .next { s with resp := refusedWith 5#32 } := by
  refine (whenRunning_run hh _).trans ?_
  rw [hi, hm, ho]
  rfl

theorem exec_rot_collidesI (hh : s.halt = false) (hi : s.cfg.isI s.cur = true) (hm : marginsI s = true)
    (ho : orientation s = some (old, new)) (hb : someSet s.terrain new = true) :
    exec .rot s = .next { s with resp := ranWith 0#32 } := by
  refine (whenRunning_run hh _).trans ?_
  rw [hi, hm, ho]
  exact if_pos hb

theorem exec_rot_toggles (hh : s.halt = false) (hi : s.cfg.isI s.cur = true) (hm : marginsI s = true)
    (ho : orientation s = some (old, new)) (hb : someSet s.terrain new = false) :
    exec .rot s = .next ((toggleCells old new s).issue composeAndRespond) := by
  refine (whenRunning_run hh _).trans ?_
  rw [hi, hm, ho]
  exact if_neg (Bool.eq_false_iff.mp hb)

theorem answer_not_open {r : Response} (h : (.next { s with resp := some r } : Result) = .next t) : t.resp ≠ none :=
  Host.Outcome.next.inj h ▸ Option.some_ne_none r

/-- Only a rotation that is carried out leaves the response open. -/
theorem rot_committed (h : exec .rot s = .next t) (hr : t.resp = none) :
    ∃ u, Rotates s u ∧ t = u.issue composeAndRespond := by
  obtain ⟨-, rfl⟩ | ⟨hh, -⟩ := whenRunning_next h
  · cases hr
  cases hi : s.cfg.isI s.cur with
  | false =>
    cases hm : margins3 s with
    | false => exact absurd hr (answer_not_open ((exec_rot_outside3 hh hi hm).symm.trans h))
    | true =>
      cases hc : collides3 s with
      | true => exact absurd hr (answer_not_open ((exec_rot_collides3 hh hi hm hc).symm.trans h))
      | false => exact ⟨_, .turn hm hc hi, Host.Outcome.next.inj (h.symm.trans (exec_rot_turns hh hi hm hc))⟩
  | true =>
    cases hm : marginsI s with
    | false => exact absurd hr (answer_not_open ((exec_rot_outsideI hh hi hm).symm.trans h))
    | true =>
      cases ho : orientation s with
      | none => exact absurd hr (answer_not_open ((exec_rot_noOrientation hh hi hm ho).symm.trans h))
      | some cells =>
        cases hb : someSet s.terrain cells.2 with
        | true => exact absurd hr (answer_not_open ((exec_rot_collidesI hh hi hm ho hb).symm.trans h))
        | false =>
          exact ⟨_, .toggle hi hm ho hb, Host.Outcome.next.inj (h.symm.trans (exec_rot_toggles hh hi hm ho hb))⟩

theorem rot_committed_turn (hi : s.cfg.isI s.cur = false) (h : exec .rot s = .next t) (hr : t.resp = none) :
    margins3 s = true ∧ t = (rotate3 s).issue composeAndRespond := by
  obtain ⟨u, hu, rfl⟩ := rot_committed h hr
  cases hu with
  | turn hm => exact ⟨hm, rfl⟩
  | toggle hi' => exact absurd (hi'.symm.trans hi) Bool.true_eq_false_eq_False

theorem rot_committed_toggle (hi : s.cfg.isI s.cur = true) (ho : orientation s = some (old, new))
    (h : exec .rot s = .next t) (hr : t.resp = none) :
    marginsI s = true ∧ t = (toggleCells old new s).issue composeAndRespond := by
  obtain ⟨u, hu, rfl⟩ := rot_committed h hr
  cases hu with
  | turn _ _ hi' => exact absurd (hi.symm.trans hi') Bool.true_eq_false_eq_False
  | toggle _ hm ho' =>
    cases ho.symm.trans ho'
    exact ⟨hm, rfl⟩

end

/-! ## The margins (R163) -/

theorem margins3_iff {s : State} : margins3 s = true ↔
    1 ≤ s.anchorX.toNat ∧ s.anchorX.toNat ≤ 14 ∧ 1 ≤ s.anchorY.toNat ∧ s.anchorY.toNat ≤ 30 := by
  simp only [margins3, Bool.and_eq_true, decide_eq_true_eq, and_assoc]

theorem cellExists_iff {p : Cell} : cellExists p = true ↔ 0 ≤ p.1 ∧ p.1 ≤ 31 ∧ 0 ≤ p.2 ∧ p.2 ≤ 15 := by
  simp only [cellExists, Bool.and_eq_true, decide_eq_true_eq, and_assoc]

theorem marginsI_iff {s : State} :
    marginsI s = true ↔ ∀ p ∈ verticalCells s ++ horizontalCells s, cellExists p = true :=
  List.all_eq_true

theorem marginsI_eq_false {s : State} : marginsI s = false ↔
    ∃ p ∈ verticalCells s ++ horizontalCells s, ¬(0 ≤ p.1 ∧ p.1 ≤ 31 ∧ 0 ≤ p.2 ∧ p.2 ≤ 15) := by
  simp only [← Bool.not_eq_true, marginsI_iff, cellExists_iff, not_forall, exists_prop]

/-- With the numbering taken the I piece is number 0 (R26). -/
theorem isI_iff {c : Config} (hd : c.Decided) (t : Piece) : c.isI t = true ↔ t = 0 := by
  rw [Config.isI, hd.numbering]
  revert t
  decide

/-- With the offsets taken the cells of both orientations exist where the anchor is in 1..13 and 1..29. -/
theorem marginsI_iff_anchor {s : State} (hd : s.cfg.Decided) : marginsI s = true ↔
    1 ≤ s.anchorX.toNat ∧ s.anchorX.toNat ≤ 13 ∧ 1 ≤ s.anchorY.toNat ∧ s.anchorY.toNat ≤ 29 := by
  have hx := s.anchorX.isLt
  have hy := s.anchorY.isLt
  simp only [marginsI_iff, cellExists_iff, verticalCells, verticalAt, hd.iVrows, horizontalCells, horizontalAt,
    hd.iHbits, cellAt, List.map_cons, List.map_nil, List.cons_append, List.nil_append, List.forall_mem_cons,
    List.not_mem_nil, false_imp_iff, implies_true, and_true]
  omega

/-- Settles O41, by the margins of the piece. -/
theorem rotationOutsideTheMarginsIsRefused : Obligations.RotationOutsideTheMarginsIsRefused := fun _ hh =>
  ⟨fun hi hm => exec_rot_outside3 hh hi (Bool.eq_false_iff.mpr (mt margins3_iff.mp hm)),
    fun hi hm => exec_rot_outsideI hh hi (marginsI_eq_false.mpr hm),
    fun hd => ⟨isI_iff hd _,
      marginsI_eq_false.symm.trans (Bool.eq_false_iff.trans (not_congr (marginsI_iff_anchor hd)))⟩⟩

/-! ## The quarter turn (R165, R168) -/

theorem mem_offsets {d : Int} : d ∈ ([-1, 0, 1] : List Int) ↔ -1 ≤ d ∧ d ≤ 1 := by
  simp only [List.mem_cons, List.not_mem_nil, or_false]
  omega

/-- The grid indices are the pairs of offsets (R165). -/
theorem exists_gridIndex {di dj : Int} (hi : di ∈ ([-1, 0, 1] : List Int)) (hj : dj ∈ ([-1, 0, 1] : List Int)) :
    ∃ n : Fin 9, gridRow n = di ∧ gridBit n = dj := by
  rw [mem_offsets] at hi hj
  refine ⟨⟨(3 * di + dj + 4).toNat, by omega⟩, ?_, ?_⟩
  · simp only [gridRow]
    omega
  · simp only [gridBit]
    omega

/-- The closed form of the rotation table (R168). -/
theorem rotated_eq (s : State) (n : Fin 9) : (rotated s)[n] = occupied s (gridBit n) (-gridRow n) := by
  fin_cases n <;> rfl

theorem collides3_iff {s : State} : collides3 s = true ↔
    ∃ di ∈ ([-1, 0, 1] : List Int), ∃ dj ∈ ([-1, 0, 1] : List Int),
      occupied s dj (-di) = true ∧ blocked s di dj = true := by
  simp only [collides3, List.any_eq_true, Bool.and_eq_true, rotated_eq]
  constructor
  · rintro ⟨n, -, h⟩
    exact ⟨_, mem_offsets.mpr (gridRow_bounds n), _, mem_offsets.mpr (gridBit_bounds n), h⟩
  · rintro ⟨di, hi, dj, hj, h⟩
    obtain ⟨n, rfl, rfl⟩ := exists_gridIndex hi hj
    exact ⟨n, List.mem_finRange n, h⟩

theorem rotate3_row (s : State) {i : Fin 32} {g : Fin 3} (h : i.val + 1 = s.anchorY.toNat + g.val) :
    (rotate3 s).active[i] = gridRowBits s g := by
  rw [rotate3_active]
  match g with
  | 0 => exact if_pos h
  | 1 =>
    have hi : i.val + 1 = s.anchorY.toNat + 1 := h
    rw [if_neg (by omega), if_pos (by omega)]
  | 2 =>
    have hi : i.val + 1 = s.anchorY.toNat + 2 := h
    rw [if_neg (by omega), if_neg (by omega), if_pos (by omega)]

/-- A set bit of the table is set in its row. -/
theorem getLsbD_gridRowBits {s : State} {g k : Fin 3} {b : Fin 16}
    (hb : b.val + 1 = s.anchorX.toNat + k.val) (h : (rotated s)[3 * g.val + k.val] = true) :
    (gridRowBits s g).getLsbD b.val = true := by
  simp only [gridRowBits, BitVec.getLsbD_or, Bool.or_eq_true, getLsbD_bitRow]
  match k with
  | 0 => exact .inl (.inl ⟨h, Nat.eq_sub_of_add_eq hb⟩)
  | 1 => exact .inl (.inr ⟨h, Nat.succ.inj hb⟩)
  | 2 => exact .inr ⟨h, Nat.succ.inj hb⟩

theorem gridIndex_inj {m n : Fin 9} (hr : gridRow m = gridRow n) (hb : gridBit m = gridBit n) : m = n := by
  unfold gridRow at hr
  unfold gridBit at hb
  omega

/-- Inside the margins the neighbourhood exists. -/
theorem cellExists_anchorCell {s : State} (hm : margins3 s = true) (n : Fin 9) :
    cellExists (anchorCell s (gridRow n) (gridBit n)) = true := by
  have hr := gridRow_bounds n
  have hb := gridBit_bounds n
  rw [margins3_iff] at hm
  simp only [cellExists_iff, anchorCell, cellAt]
  omega

theorem occupied_of_cell {s : State} {i : Fin 32} {b : Fin 16} {di dj : Int} (h : cellOf i b = anchorCell s di dj) :
    occupied s di dj = s.active[i].getLsbD b.val := by
  rw [occupied, ← h, cellBit_cellOf]

/-- The commit writes the table into the neighbourhood (R165). -/
theorem rotate3_cell {s : State} (hm : margins3 s = true) (n : Fin 9) :
    occupied (rotate3 s) (gridRow n) (gridBit n) = (rotated s)[n] := by
  have hx := (margins3_iff.mp hm).1
  obtain ⟨i, b, hcell⟩ := exists_cellOf (cellExists_anchorCell hm n)
  obtain ⟨hrow, hbit⟩ := Prod.ext_iff.mp hcell
  simp only [cellOf, anchorCell, cellAt] at hrow hbit
  rw [occupied_of_cell (s := rotate3 s) hcell.symm, Bool.eq_iff_iff]
  constructor
  · intro h
    obtain ⟨m, hset, hcell'⟩ | ⟨-, hfar⟩ := rotate3_bit hx h
    · obtain ⟨hrow', hbit'⟩ := Prod.ext_iff.mp (hcell.trans hcell')
      simp only [anchorCell, cellAt] at hrow' hbit'
      rw [gridIndex_inj (m := n) (n := m) (by omega) (by omega)]
      exact hset
    · have hr := gridRow_bounds n
      omega
  · intro h
    unfold gridRow at hrow
    unfold gridBit at hbit
    rw [rotate3_row s (g := ⟨n.val / 3, by omega⟩) (by simp only; omega)]
    refine getLsbD_gridRowBits (k := ⟨n.val % 3, by omega⟩) (by simp only; omega) ?_
    simpa only [Nat.div_add_mod, Fin.getElem_fin] using h

/-- Piece and anchor stay; the neighbourhood is turned, the rest of its three rows clear, every other row the same. -/
structure QuarterTurn (s t : State) : Prop where
  cfg : t.cfg = s.cfg
  cur : t.cur = s.cur
  anchorX : t.anchorX = s.anchorX
  anchorY : t.anchorY = s.anchorY
  cells : ∀ di ∈ ([-1, 0, 1] : List Int), ∀ dj ∈ ([-1, 0, 1] : List Int), occupied t di dj = occupied s dj (-di)
  beside : ∀ (i : Fin 32) (b : Fin 16), (i.val ≤ s.anchorY.toNat + 1 ∧ s.anchorY.toNat ≤ i.val + 1) →
    ¬(b.val ≤ s.anchorX.toNat + 1 ∧ s.anchorX.toNat ≤ b.val + 1) → t.active[i].getLsbD b.val = false
  rows : ∀ i : Fin 32, ¬(i.val ≤ s.anchorY.toNat + 1 ∧ s.anchorY.toNat ≤ i.val + 1) → t.active[i] = s.active[i]

theorem rotate3_quarterTurn {s : State} (hm : margins3 s = true) : QuarterTurn s (rotate3 s) where
  cfg := rfl
  cur := rfl
  anchorX := rfl
  anchorY := rfl
  cells di hi dj hj := by
    obtain ⟨n, rfl, rfl⟩ := exists_gridIndex hi hj
    rw [rotate3_cell hm, rotated_eq]
  beside i b hi hb := by
    refine Bool.eq_false_iff.mpr fun h => ?_
    obtain ⟨n, -, hcell⟩ | ⟨-, hfar⟩ := rotate3_bit (margins3_iff.mp hm).1 h
    · have hbit : (b.val : Int) = s.anchorX.toNat + gridBit n := congrArg Prod.snd hcell
      have hn := gridBit_bounds n
      omega
    · omega
  rows i hi := by rw [rotate3_active, if_neg (by omega), if_neg (by omega), if_neg (by omega)]

/-- Settles O40: inside the margins, by the collision test. -/
theorem rotationTurnsTheNeighbourhood : Obligations.RotationTurnsTheNeighbourhood := by
  intro s hh hi hx hx' hy hy'
  have hm := margins3_iff.mpr ⟨hx, hx', hy, hy'⟩
  refine ⟨fun h => exec_rot_collides3 hh hi hm (collides3_iff.mpr h), fun h => ?_⟩
  have hc : collides3 s = false := Bool.eq_false_iff.mpr fun hc => by
    obtain ⟨di, hdi, dj, hdj, hset, hover⟩ := collides3_iff.mp hc
    exact Bool.eq_false_iff.mp (h di hdi dj hdj hset) hover
  have hq := rotate3_quarterTurn hm
  exact ⟨_, exec_rot_turns hh hi hm hc, hq.cells, fun i b => ⟨hq.beside i b, hq.rows i⟩, rfl⟩

/-! ## Four quarter turns (R169) -/

theorem neg_mem_offsets {d : Int} (h : d ∈ ([-1, 0, 1] : List Int)) : -d ∈ ([-1, 0, 1] : List Int) := by
  rw [mem_offsets] at h ⊢
  omega

theorem exists_offsets {s : State} {i : Fin 32} {b : Fin 16}
    (hi : i.val ≤ s.anchorY.toNat + 1 ∧ s.anchorY.toNat ≤ i.val + 1)
    (hb : b.val ≤ s.anchorX.toNat + 1 ∧ s.anchorX.toNat ≤ b.val + 1) :
    ∃ di ∈ ([-1, 0, 1] : List Int), ∃ dj ∈ ([-1, 0, 1] : List Int), cellOf i b = anchorCell s di dj :=
  ⟨i.val - s.anchorY.toNat, mem_offsets.mpr (by omega), b.val - s.anchorX.toNat, mem_offsets.mpr (by omega),
    Prod.ext (by simp only [cellOf, anchorCell, cellAt]; omega) (by simp only [cellOf, anchorCell, cellAt]; omega)⟩

theorem QuarterTurn.isI {s t : State} (h : QuarterTurn s t) : t.cfg.isI t.cur = s.cfg.isI s.cur := by
  rw [h.cfg, h.cur]

theorem QuarterTurn.of_same {s t t' : State} (h : QuarterTurn s t) (e : SamePiece t t') : QuarterTurn s t' where
  cfg := e.cfg.trans h.cfg
  cur := e.cur.trans h.cur
  anchorX := e.anchorX.trans h.anchorX
  anchorY := e.anchorY.trans h.anchorY
  cells di hi dj hj := by
    rw [← h.cells di hi dj hj, occupied, occupied, anchorCell, anchorCell, e.active, e.anchorX, e.anchorY]
  beside i b hi hb := e.active ▸ h.beside i b hi hb
  rows i hi := e.active ▸ h.rows i hi

theorem SamePiece.of_issue {s t : State} {ms : List Micro} (e : SamePiece (s.issue ms) t) : SamePiece s t :=
  ⟨e.cfg, e.terrain, e.active, e.anchorX, e.anchorY, e.cur, e.halt⟩

theorem SamePiece.refl (s : State) : SamePiece s s := ⟨rfl, rfl, rfl, rfl, rfl, rfl, rfl⟩

/-- A committed rotation of a piece other than I is a quarter turn, also once its composition has ended. -/
theorem quarterTurn_of_committed {s t t' : State} (hi : s.cfg.isI s.cur = false) (h : exec .rot s = .next t)
    (hr : t.resp = none) (e : SamePiece t t') : QuarterTurn s t' := by
  obtain ⟨hm, rfl⟩ := rot_committed_turn hi h hr
  exact (rotate3_quarterTurn hm).of_same e.of_issue

/-- The map (di, dj) to (dj, -di) has order four. -/
theorem occupied_four_turns {s a b c d : State} (hsa : QuarterTurn s a) (hab : QuarterTurn a b) (hbc : QuarterTurn b c)
    (hcd : QuarterTurn c d) {di dj : Int} (hi : di ∈ ([-1, 0, 1] : List Int)) (hj : dj ∈ ([-1, 0, 1] : List Int)) :
    occupied d di dj = occupied s di dj := by
  have hi' := neg_mem_offsets hi
  have hj' := neg_mem_offsets hj
  calc occupied d di dj
    _ = occupied c dj (-di) := hcd.cells di hi dj hj
    _ = occupied b (-di) (-dj) := hbc.cells dj hj (-di) hi'
    _ = occupied a (-dj) (- -di) := hab.cells (-di) hi' (-dj) hj'
    _ = occupied a (-dj) di := by rw [neg_neg]
    _ = occupied s di (- -dj) := hsa.cells (-dj) hj' di hi
    _ = occupied s di dj := by rw [neg_neg]

theorem active_four_turns {s a b c d : State} (hsa : QuarterTurn s a) (hab : QuarterTurn a b) (hbc : QuarterTurn b c)
    (hcd : QuarterTurn c d)
    (hs : ∀ (i : Fin 32) (k : Fin 16), i.val ≤ s.anchorY.toNat + 1 → s.anchorY.toNat ≤ i.val + 1 →
      s.active[i].getLsbD k.val = true → k.val ≤ s.anchorX.toNat + 1 ∧ s.anchorX.toNat ≤ k.val + 1) :
    d.active = s.active := by
  have hbx := hab.anchorX.trans hsa.anchorX
  have hby := hab.anchorY.trans hsa.anchorY
  have hcx := hbc.anchorX.trans hbx
  have hcy := hbc.anchorY.trans hby
  refine vector_ext fun i => ?_
  by_cases hi : i.val ≤ s.anchorY.toNat + 1 ∧ s.anchorY.toNat ≤ i.val + 1
  · refine BitVec.eq_of_getLsbD_eq fun k hk => ?_
    by_cases hb : k ≤ s.anchorX.toNat + 1 ∧ s.anchorX.toNat ≤ k + 1
    · obtain ⟨di, hdi, dj, hdj, hcell⟩ := exists_offsets (b := ⟨k, hk⟩) hi hb
      have hcell' : cellOf i ⟨k, hk⟩ = anchorCell d di dj := by
        rw [hcell, anchorCell, anchorCell, hcd.anchorX, hcd.anchorY, hcx, hcy]
      calc d.active[i].getLsbD k
        _ = occupied d di dj := (occupied_of_cell hcell').symm
        _ = occupied s di dj := occupied_four_turns hsa hab hbc hcd hdi hdj
        _ = s.active[i].getLsbD k := occupied_of_cell hcell
    · calc d.active[i].getLsbD k
        _ = false := hcd.beside i ⟨k, hk⟩ (hcy ▸ hi) (hcx ▸ hb)
        _ = s.active[i].getLsbD k := (Bool.eq_false_iff.mpr fun h => hb (hs i ⟨k, hk⟩ hi.1 hi.2 h)).symm
  · calc d.active[i]
      _ = c.active[i] := hcd.rows i (hcy ▸ hi)
      _ = b.active[i] := hbc.rows i (hby ▸ hi)
      _ = a.active[i] := hab.rows i (hsa.anchorY ▸ hi)
      _ = s.active[i] := hsa.rows i hi

/-! ## The toggle of the I piece (R166, R167) -/

section
variable {s : State} {old new : List Cell}

theorem orientation_vertical (h : allSet s.active (verticalCells s) = true) :
    orientation s = some (verticalCells s, horizontalCells s) :=
  if_pos h

theorem orientation_horizontal (hv : allSet s.active (verticalCells s) = false)
    (hh : allSet s.active (horizontalCells s) = true) :
    orientation s = some (horizontalCells s, verticalCells s) := by
  rw [orientation, hv, hh]
  rfl

theorem orientation_none (hv : allSet s.active (verticalCells s) = false)
    (hh : allSet s.active (horizontalCells s) = false) : orientation s = none := by
  rw [orientation, hv, hh]
  rfl

/-- Of the cells of both orientations each is old or new. -/
theorem mem_orientations (ho : orientation s = some (old, new)) {p : Cell} :
    p ∈ verticalCells s ++ horizontalCells s ↔ p ∈ old ∨ p ∈ new := by
  rw [List.mem_append]
  obtain ⟨rfl, rfl⟩ | ⟨rfl, rfl⟩ := orientation_cases ho
  · exact Iff.rfl
  · exact Or.comm

theorem cellBit_setCells (h : ∀ q ∈ new, cellExists q = true) (v : Rows) {p : Cell} (hp : cellExists p = true) :
    cellBit (new.foldl setCell v) p = true ↔ cellBit v p = true ∨ p ∈ new := by
  obtain ⟨i, b, rfl⟩ := exists_cellOf hp
  rw [cellBit_cellOf, cellBit_cellOf, getLsbD_setCells new h]

theorem cellBit_clearCells (h : ∀ q ∈ old, cellExists q = true) (v : Rows) {p : Cell} (hp : cellExists p = true) :
    cellBit (old.foldl clearCell v) p = true ↔ cellBit v p = true ∧ p ∉ old := by
  obtain ⟨i, b, rfl⟩ := exists_cellOf hp
  rw [cellBit_cellOf, cellBit_cellOf, getLsbD_clearCells old h]

/-- The old cells cleared, then the new cells set, every other cell kept. -/
theorem cellBit_toggleCells (hm : marginsI s = true) (ho : orientation s = some (old, new)) {p : Cell}
    (hp : cellExists p = true) : cellBit (toggleCells old new s).active p =
      if p ∈ new then true else if p ∈ old then false else cellBit s.active p := by
  have hold : ∀ q ∈ old, cellExists q = true := fun q hq =>
    marginsI_iff.mp hm q ((mem_orientations ho).mpr (.inl hq))
  have hnew : ∀ q ∈ new, cellExists q = true := fun q hq =>
    marginsI_iff.mp hm q ((mem_orientations ho).mpr (.inr hq))
  rw [Bool.eq_iff_iff, toggleCells_active, cellBit_setCells hnew _ hp, cellBit_clearCells hold _ hp]
  by_cases hpn : p ∈ new
  · simp [hpn]
  · by_cases hpo : p ∈ old
    · simp [hpn, hpo]
    · simp [hpn, hpo]

end

/-- Settles O42, by the orientation the layer shows and the collision test. -/
theorem iPieceToggles : Obligations.IPieceToggles := by
  intro s hh hi hm
  refine ⟨fun h => exec_rot_noOrientation hh hi hm (orientation_none h.1 h.2), fun old new h => ?_⟩
  have ho : orientation s = some (old, new) := by
    obtain ⟨hv, rfl, rfl⟩ | ⟨hv, hz, rfl, rfl⟩ := h
    · exact orientation_vertical hv
    · exact orientation_horizontal hv hz
  exact ⟨exec_rot_collidesI hh hi hm ho, fun hb =>
    ⟨_, exec_rot_toggles hh hi hm ho hb, fun _ => cellBit_toggleCells hm ho, rfl⟩⟩

/-! ## Two toggles (R169) -/

/-- Of the cells of both orientations the active layer holds exactly these. -/
def ShowsCells (s : State) (cells : List Cell) : Prop :=
  ∀ p ∈ verticalCells s ++ horizontalCells s, (cellBit s.active p = true ↔ p ∈ cells)

theorem rows_ext {v w : Rows} (h : ∀ p, cellExists p = true → cellBit v p = cellBit w p) : v = w :=
  vector_ext fun i => BitVec.eq_of_getLsbD_eq fun b hb => by
    have hcell := h (cellOf i ⟨b, hb⟩) (cellExists_iff.mpr (by simp only [cellOf]; omega))
    rwa [cellBit_cellOf, cellBit_cellOf] at hcell

theorem allSet_iff {v : Rows} {cs : List Cell} : allSet v cs = true ↔ ∀ p ∈ cs, cellBit v p = true :=
  List.all_eq_true

section
variable {s t : State} {old new : List Cell}

theorem orientation_of_showsVertical (h : ShowsCells s (verticalCells s)) :
    orientation s = some (verticalCells s, horizontalCells s) :=
  orientation_vertical (allSet_iff.mpr fun p hp => (h p (List.mem_append_left _ hp)).mpr hp)

/-- With the offsets taken the flat piece leaves the upper cell of the upright one clear. -/
theorem orientation_of_showsHorizontal (hd : s.cfg.Decided) (h : ShowsCells s (horizontalCells s)) :
    orientation s = some (horizontalCells s, verticalCells s) := by
  refine orientation_horizontal (Bool.eq_false_iff.mpr fun hall => ?_)
    (allSet_iff.mpr fun p hp => (h p (List.mem_append_right _ hp)).mpr hp)
  have hv : anchorCell s (-1) 0 ∈ verticalCells s :=
    List.mem_map.mpr ⟨-1, hd.iVrows ▸ List.mem_cons_self, rfl⟩
  obtain ⟨d, -, hcell⟩ := List.mem_map.mp ((h _ (List.mem_append_left _ hv)).mp (allSet_iff.mp hall _ hv))
  have hrow := congrArg Prod.fst hcell
  simp only [anchorCell, cellAt] at hrow
  omega

/-- After the toggle the layer shows the new cells alone. -/
theorem toggleCells_shows (hm : marginsI s = true) (ho : orientation s = some (old, new)) :
    ShowsCells (toggleCells old new s) new := by
  intro p hp
  rw [cellBit_toggleCells hm ho (marginsI_iff.mp hm p hp)]
  by_cases hpn : p ∈ new
  · simp [hpn]
  · have hpo := ((mem_orientations ho).mp hp).resolve_right hpn
    simp [hpn, hpo]

theorem SamePiece.verticalCells (h : SamePiece s t) : verticalCells t = Machine.verticalCells s := by
  rw [Machine.verticalCells, Machine.verticalCells, h.cfg, h.anchorX, h.anchorY]

theorem SamePiece.horizontalCells (h : SamePiece s t) : horizontalCells t = Machine.horizontalCells s := by
  rw [Machine.horizontalCells, Machine.horizontalCells, h.cfg, h.anchorX, h.anchorY]

theorem SamePiece.shows {cells : List Cell} (h : SamePiece s t) (hs : ShowsCells s cells) : ShowsCells t cells := by
  intro p hp
  rw [h.verticalCells, h.horizontalCells] at hp
  rw [h.active]
  exact hs p hp

/-- Once the composition of the toggle has ended the piece faces the other way. -/
theorem orientation_toggled (hd : s.cfg.Decided) (hm : marginsI s = true) (ho : orientation s = some (old, new))
    (e : SamePiece (toggleCells old new s) t) : orientation t = some (new, old) := by
  have ht := e.shows (toggleCells_shows hm ho)
  have hv : verticalCells t = verticalCells s := e.verticalCells
  have hz : horizontalCells t = horizontalCells s := e.horizontalCells
  obtain ⟨rfl, rfl⟩ | ⟨rfl, rfl⟩ := orientation_cases ho
  · rw [← hv, ← hz]
    exact orientation_of_showsHorizontal (e.cfg ▸ hd) (hz ▸ ht)
  · rw [← hv, ← hz]
    exact orientation_of_showsVertical (hv ▸ ht)

/-- The toggle back sets the old cells, clears the new ones, and keeps what the first toggle kept. -/
theorem active_two_toggles (hm : marginsI s = true) (ho : orientation s = some (old, new)) (hs : ShowsCells s old)
    (e : SamePiece (toggleCells old new s) t) (hmt : marginsI t = true) (hot : orientation t = some (new, old)) :
    (toggleCells new old t).active = s.active := by
  refine rows_ext fun p hp => ?_
  rw [cellBit_toggleCells hmt hot hp, e.active, cellBit_toggleCells hm ho hp]
  by_cases hpo : p ∈ old
  · rw [if_pos hpo, (hs p ((mem_orientations ho).mpr (.inl hpo))).mpr hpo]
  · rw [if_neg hpo]
    by_cases hpn : p ∈ new
    · rw [if_pos hpn]
      exact (Bool.eq_false_iff.mpr (mt (hs p ((mem_orientations ho).mpr (.inr hpn))).mp hpo)).symm
    · rw [if_neg hpn, if_neg hpn, if_neg hpo]

end

/-- Settles O43: the quarter turn has order four, and the second toggle undoes the first. -/
theorem rotationRoundTrips : Obligations.RotationRoundTrips := by
  constructor
  · intro s a a' b b' c c' d _ hi hs hsa hra ea hab hrb eb hbc hrc ec hcd hrd
    have q1 := quarterTurn_of_committed hi hsa hra ea
    have i1 := q1.isI.trans hi
    have q2 := quarterTurn_of_committed i1 hab hrb eb
    have i2 := q2.isI.trans i1
    have q3 := quarterTurn_of_committed i2 hbc hrc ec
    have i3 := q3.isI.trans i2
    exact active_four_turns q1 q2 q3 (quarterTurn_of_committed i3 hcd hrd (.refl d)) hs
  · intro s a a' b _ hi hd hs hsa hra e hab hrb
    obtain ⟨old, new, ho, hold⟩ : ∃ old new, orientation s = some (old, new) ∧ ShowsCells s old := by
      obtain hv | hz := hs
      · exact ⟨_, _, orientation_of_showsVertical hv, hv⟩
      · exact ⟨_, _, orientation_of_showsHorizontal hd hz, hz⟩
    obtain ⟨hm, rfl⟩ := rot_committed_toggle hi ho hsa hra
    have e : SamePiece (toggleCells old new s) a' := e.of_issue
    have hi' : a'.cfg.isI a'.cur = true := by rwa [e.cfg, e.cur]
    have ho' := orientation_toggled hd hm ho e
    obtain ⟨hm', rfl⟩ := rot_committed_toggle hi' ho' hab hrb
    exact active_two_toggles hm ho hold e hm' ho'

end Sys2Proof.Machine
end

section
/-! PROOFS of the line-clear family (`spec/43_lineclear.md`): the row-match predicate, the playable rows after one
clear, the line clear as a number of clears that leave no complete row, the loop without an end, and the step that never
stops where the line clear ends. -/

namespace Sys2Proof.Machine

/-! ## The row-match predicate (R180) -/

/-- Every bit is a wall bit or an interior bit (R8). -/
theorem complete_eq_ones (c : Config) : c.complete = 0xFFFF#16 := BitVec.or_not_self c.wallMask

theorem isComplete_ite {α : Type} {c : Config} {v : Row} {a b : α} :
    (if isComplete c v = true then a else b) = if v = c.complete then a else b :=
  ite_congr (propext beq_iff_eq) (fun _ => rfl) fun _ => rfl

/-- Settles O44: a legal row index selects the row, and the predicate is equality with the sentinel. -/
theorem isFullTest : Obligations.IsFullTest := by
  refine fun s a h => ⟨(inRange_runs (rowIndex_lt h)).trans ?_, complete_eq_ones s.cfg⟩
  rw [State.answer, isComplete_ite]
  rfl

/-! ## The playable rows (R7) -/

theorem filter_playable : (List.finRange 32).filter playable = (List.finRange 24).map (Fin.natAdd 8) := by decide

@[simp] theorem length_playRows (v : Rows) : (playRows v).length = 24 := by
  rw [playRows, filter_playable, List.length_map, List.length_map, List.length_finRange]

theorem playRows_getElem (v : Rows) {k : Nat} (h : k < (playRows v).length) :
    (playRows v)[k] = v[8 + k]'(by rw [length_playRows] at h; omega) := by
  simp only [playRows, filter_playable, List.getElem_map, List.getElem_finRange]
  rfl

theorem mem_playRows {v : Rows} {x : Row} : x ∈ playRows v ↔ ∃ i : Fin 32, 8 ≤ i.val ∧ v[i] = x := by
  simp [playRows, playable]

/-- Some playable row equals the sentinel (R180, R181). -/
abbrev HasComplete (s : State) : Prop := ∃ i : Fin 32, 8 ≤ i.val ∧ s.terrain[i] = s.cfg.complete

theorem not_hasComplete {s : State} : ¬HasComplete s ↔ ∀ i : Fin 32, 8 ≤ i.val → s.terrain[i] ≠ s.cfg.complete := by
  simp only [not_exists, not_and, ne_eq]

theorem count_complete_eq_zero {s : State} : (playRows s.terrain).count s.cfg.complete = 0 ↔ ¬HasComplete s :=
  List.count_eq_zero.trans (not_congr mem_playRows)

theorem filter_of_not_hasComplete {s : State} (h : ¬HasComplete s) :
    (playRows s.terrain).filter (· != s.cfg.complete) = playRows s.terrain := by
  refine List.filter_eq_self.mpr fun x hx => bne_iff_ne.mpr ?_
  obtain ⟨i, hi, rfl⟩ := mem_playRows.mp hx
  exact not_hasComplete.mp h i hi

/-! ## One clear (R181) -/

/-- The clear of row r takes that row out of the playable rows and puts `WALL_MASK` on top. -/
theorem playRows_compact (c : Config) (v : Rows) {r : Fin 32} (hr : 8 ≤ r.val) :
    playRows (compact c r.val v) = c.wallMask :: (playRows v).eraseIdx (r.val - 8) := by
  have hlen : ((playRows v).eraseIdx (r.val - 8)).length = 23 := by
    rw [List.length_eraseIdx_of_lt (by rw [length_playRows]; omega), length_playRows]
  refine List.ext_getElem (by rw [length_playRows, List.length_cons, hlen]) fun k hk _ => ?_
  rw [length_playRows] at hk
  rw [playRows_getElem]
  refine (compact_row c r.val v ⟨8 + k, by omega⟩).trans ?_
  cases k with
  | zero => rfl
  | succ k =>
    rw [List.getElem_cons_succ, List.getElem_eraseIdx, if_neg (by simp)]
    by_cases hle : k < r.val - 8
    · rw [dif_pos hle, if_pos (by simp only; omega), playRows_getElem]
      rfl
    · rw [dif_neg hle, if_neg (by simp only; omega), playRows_getElem]
      rfl

theorem filter_eraseIdx_of_neg {α : Type} {p : α → Bool} {l : List α} {k : Nat} (hk : k < l.length)
    (h : p l[k] = false) : (l.eraseIdx k).filter p = l.filter p :=
  calc (l.eraseIdx k).filter p
    _ = (l.take k ++ l.drop (k + 1)).filter p := by rw [List.eraseIdx_eq_take_drop_succ]
    _ = (l.take k ++ l[k] :: l.drop (k + 1)).filter p := by
      rw [List.filter_append, List.filter_append, List.filter_cons_of_neg (Bool.eq_false_iff.mp h)]
    _ = l.filter p := by rw [List.getElem_cons_drop, List.take_append_drop]

section
variable {s : State} {r : Fin 32} (hw : s.cfg.wallMask ≠ s.cfg.complete) (hr : 8 ≤ r.val)
  (hc : s.terrain[r] = s.cfg.complete)
include hr hc

theorem playRows_getElem_cleared : ∃ h : r.val - 8 < (playRows s.terrain).length,
    (playRows s.terrain)[r.val - 8] = s.cfg.complete := by
  refine ⟨by rw [length_playRows]; omega, ?_⟩
  rw [playRows_getElem, ← hc]
  simp only [Nat.add_sub_cancel' hr, Fin.getElem_fin]

include hw

theorem filter_clearLine : (playRows (clearLine r s).terrain).filter (· != s.cfg.complete) =
    s.cfg.wallMask :: (playRows s.terrain).filter (· != s.cfg.complete) := by
  obtain ⟨hlen, hrow⟩ := playRows_getElem_cleared hr hc
  rw [clearLine_terrain, playRows_compact _ _ hr]
  calc (s.cfg.wallMask :: (playRows s.terrain).eraseIdx (r.val - 8)).filter (· != s.cfg.complete)
    _ = s.cfg.wallMask :: ((playRows s.terrain).eraseIdx (r.val - 8)).filter (· != s.cfg.complete) :=
      List.filter_cons_of_pos (bne_iff_ne.mpr hw)
    _ = s.cfg.wallMask :: (playRows s.terrain).filter (· != s.cfg.complete) :=
      congrArg (s.cfg.wallMask :: ·) (filter_eraseIdx_of_neg hlen (bne_eq_false_iff_eq.mpr hrow))

theorem count_clearLine : (playRows (clearLine r s).terrain).count s.cfg.complete + 1 =
    (playRows s.terrain).count s.cfg.complete := by
  obtain ⟨hlen, hrow⟩ := playRows_getElem_cleared hr hc
  rw [clearLine_terrain, playRows_compact _ _ hr, List.count_cons_of_ne hw,
    ← (List.getElem_cons_eraseIdx_perm hlen).count_eq, hrow, List.count_cons_self]

end

theorem clearLine_terrain_above (s : State) (r : Fin 32) {i : Fin 32} (hi : i.val < 8) :
    (clearLine r s).terrain[i] = s.terrain[i] := by
  rw [clearLine_terrain, compact_row, if_neg (by omega), if_neg (by omega)]

theorem clearLine_terrain_top (s : State) (r : Fin 32) : (clearLine r s).terrain[(8 : Fin 32)] = s.cfg.wallMask :=
  compact_row s.cfg r.val s.terrain 8

theorem clearLine_terrain_below (s : State) {r i : Fin 32} (hr : 8 ≤ r.val) (hi : r.val < i.val) :
    (clearLine r s).terrain[i] = s.terrain[i] := by
  rw [clearLine_terrain, compact_row, if_neg (by omega), if_neg (by omega)]

/-! ## A number of clears -/

/-- The second state is the first after the clear of k complete playable rows. -/
inductive Clears (s : State) : Nat → State → Prop
  | none : Clears s 0 s
  | line {k : Nat} {t : State} {r : Fin 32} (h : Clears s k t) (hr : 8 ≤ r.val)
      (hc : t.terrain[r] = t.cfg.complete) : Clears s (k + 1) (clearLine r t)

namespace Clears
variable {s t : State} {k : Nat}

theorem cfg (h : Clears s k t) : t.cfg = s.cfg := by
  induction h with
  | none => rfl
  | line _ _ _ ih => exact ih

theorem score (h : Clears s k t) : t.score = counted s.cfg.scoreW k s.score := by
  induction h with
  | none => rfl
  | line h _ _ ih => rw [clearLine_score, h.cfg, ih, countUp_counted]

theorem terrain_above (h : Clears s k t) {i : Fin 32} (hi : i.val < 8) : t.terrain[i] = s.terrain[i] := by
  induction h with
  | none => rfl
  | line _ _ _ ih => exact (clearLine_terrain_above _ _ hi).trans ih

theorem filter (h : Clears s k t) (hw : s.cfg.wallMask ≠ s.cfg.complete) :
    (playRows t.terrain).filter (· != s.cfg.complete) =
      List.replicate k s.cfg.wallMask ++ (playRows s.terrain).filter (· != s.cfg.complete) := by
  induction h with
  | none => rfl
  | line h hr hc ih =>
    have hstep := filter_clearLine (h.cfg.symm ▸ hw) hr hc
    rw [h.cfg] at hstep
    rw [hstep, ih, List.replicate_succ, List.cons_append]

theorem count (h : Clears s k t) (hw : s.cfg.wallMask ≠ s.cfg.complete) :
    (playRows t.terrain).count s.cfg.complete + k = (playRows s.terrain).count s.cfg.complete := by
  induction h with
  | none => rfl
  | line h hr hc ih =>
    have hstep := count_clearLine (h.cfg.symm ▸ hw) hr hc
    rw [h.cfg] at hstep
    omega

theorem eq_of_zero (h : Clears s 0 t) : t = s := by
  cases h
  rfl

/-- The last clear drew the glyphs of the score it left. -/
theorem glyph (h : Clears s k t) (hk : k ≠ 0) : t.glyph = t.drawGlyphs.glyph := by
  cases h with
  | none => exact absurd rfl hk
  | line => rfl

end Clears

/-! ## The loop -/

theorem lineClearFrom_bound {r : Fin 32} (hr : 8 ≤ r.val) (s : State) : lineClearFrom 0 r s = none :=
  if_neg (Nat.not_lt.mpr hr)

/-- What a clear at r keeps, and what is kept where r, not complete, is lowered, holds when the loop ends. -/
theorem lineClearFrom_keeps {P : Fin 32 → State → Prop}
    (hclear : ∀ r s, 8 ≤ r.val → s.terrain[r] = s.cfg.complete → P r s → P r (clearLine r s))
    (hskip : ∀ r s, 8 ≤ r.val → s.terrain[r] ≠ s.cfg.complete → P r s → P (r - 1) s) :
    ∀ (n : Nat) (r : Fin 32) (s t : State), lineClearFrom n r s = some t → P r s → ∃ e : Fin 32, e.val < 8 ∧ P e t := by
  intro n
  induction n with
  | zero =>
    intro r s t h hp
    obtain hr | hr := Nat.lt_or_ge r.val 8
    · exact ⟨r, hr, Option.some.inj ((lineClearFrom_done hr).symm.trans h) ▸ hp⟩
    · cases (lineClearFrom_bound hr s).symm.trans h
  | succ n ih =>
    intro r s t h hp
    obtain hr | hr := Nat.lt_or_ge r.val 8
    · exact ⟨r, hr, Option.some.inj ((lineClearFrom_done hr).symm.trans h) ▸ hp⟩
    · by_cases hc : s.terrain[r] = s.cfg.complete
      · exact ih r _ t ((lineClearFrom_clear hr hc).symm.trans h) (hclear r s hr hc hp)
      · exact ih (r - 1) s t ((lineClearFrom_skip hr hc).symm.trans h) (hskip r s hr hc hp)

/-- Some rows of `s` are cleared, and what lies below row r is not complete. -/
def ClearedBelow (s : State) (r : Fin 32) (t : State) : Prop :=
  (∃ k, Clears s k t) ∧ ∀ i : Fin 32, r.val < i.val → t.terrain[i] ≠ t.cfg.complete

theorem ClearedBelow.clear {s t : State} {r : Fin 32} (hr : 8 ≤ r.val) (hc : t.terrain[r] = t.cfg.complete)
    (h : ClearedBelow s r t) : ClearedBelow s r (clearLine r t) := by
  obtain ⟨⟨k, hk⟩, hb⟩ := h
  refine ⟨⟨k + 1, hk.line hr hc⟩, fun i hi => ?_⟩
  rw [clearLine_terrain_below t hr hi]
  exact hb i hi

theorem ClearedBelow.skip {s t : State} {r : Fin 32} (hr : 8 ≤ r.val) (hc : t.terrain[r] ≠ t.cfg.complete)
    (h : ClearedBelow s r t) : ClearedBelow s (r - 1) t := by
  refine ⟨h.1, fun i hi => ?_⟩
  obtain rfl | hlt : i = r ∨ r.val < i.val := by omega
  · exact hc
  · exact h.2 i hlt

/-- The line clear is a number of clears that leave no complete row. -/
theorem lineClear_clears {s t : State} (h : lineClear s = some t) : (∃ k, Clears s k t) ∧ ¬HasComplete t := by
  have hstart : ClearedBelow s 31 s := ⟨⟨0, .none⟩, fun i hi => absurd hi (Nat.not_lt.mpr (Fin.le_last i))⟩
  obtain ⟨e, he, hk, hb⟩ :=
    lineClearFrom_keeps (fun _ _ => ClearedBelow.clear) (fun _ _ => ClearedBelow.skip) 48 31 s t h hstart
  exact ⟨hk, not_hasComplete.mpr fun i hi => hb i (by omega)⟩

/-- Settles O45: the line clear ends, and the number of its clears is the number of complete rows, since none is
left. -/
theorem lineClearCompacts : Obligations.LineClearCompacts := by
  intro s hh hw
  obtain ⟨t, ht⟩ := lineClear_ends hw
  obtain ⟨⟨k, hk⟩, hnone⟩ := lineClear_clears ht
  have hzero := count_complete_eq_zero.mpr hnone
  rw [hk.cfg] at hzero
  obtain rfl : k = (playRows s.terrain).count s.cfg.complete := by
    have hcount := hk.count hw
    omega
  refine ⟨t.respond 0#32, exec_lclr hh ht, ?rows, fun i hi => hk.terrain_above hi, ?left, hk.score, fun hs => ?same,
    fun hs => ?drawn, ?frame⟩
  case rows =>
    have hall := filter_of_not_hasComplete hnone
    rw [hk.cfg] at hall
    rw [State.respond_terrain, ← hall]
    exact hk.filter hw
  case left => exact hk.cfg ▸ not_hasComplete.mp hnone
  case same =>
    rw [count_complete_eq_zero.mpr (not_hasComplete.mpr hs)] at hk
    rw [hk.eq_of_zero]
    rfl
  case drawn => exact hk.glyph fun h0 => count_complete_eq_zero.mp h0 hs
  case frame => exact congrArg (·.respond 0#32) (lineClear_state ht)

/-! ## The loop without an end (R182, U8) -/

/-- The loop at row r has a complete row still to meet, and a clear puts a complete row in. -/
def EndlessFrom (r : Fin 32) (s : State) : Prop :=
  s.cfg.wallMask = s.cfg.complete ∧ ∃ i : Fin 32, 8 ≤ i.val ∧ i.val ≤ r.val ∧ s.terrain[i] = s.cfg.complete

theorem EndlessFrom.clear {r : Fin 32} {s : State} (hr : 8 ≤ r.val) (h : EndlessFrom r s) :
    EndlessFrom r (clearLine r s) :=
  ⟨h.1, 8, le_rfl, hr, (clearLine_terrain_top s r).trans h.1⟩

theorem EndlessFrom.skip {r : Fin 32} {s : State} (hc : s.terrain[r] ≠ s.cfg.complete) (h : EndlessFrom r s) :
    EndlessFrom (r - 1) s := by
  obtain ⟨hw, i, h8, hir, hi⟩ := h
  have hne : i ≠ r := fun e => hc (e ▸ hi)
  exact ⟨hw, i, h8, by omega, hi⟩

theorem lineClear_endless {s : State} (hw : s.cfg.wallMask = s.cfg.complete) (hc : HasComplete s) :
    lineClear s = none := by
  obtain ⟨i, h8, hi⟩ := hc
  refine Option.eq_none_iff_forall_ne_some.mpr fun t ht => ?_
  obtain ⟨e, he, -, j, h8j, hje, -⟩ :=
    lineClearFrom_keeps (P := EndlessFrom) (fun _ _ hr _ => .clear hr) (fun _ _ _ => .skip) 48 31 s t ht
      ⟨hw, i, h8, Fin.le_last i, hi⟩
  omega

/-- Settles O46: the loop never gets past its complete row. -/
theorem endlessLineClearFaults : Obligations.EndlessLineClearFaults := by
  intro s hh hw hc
  refine (whenRunning_run hh _).trans ?_
  rw [lineClear_endless hw hc]

/-! ## The step never stops (R182, R291, R293) -/

/-- The outcome is a next state. -/
def GoesOn (k : Result) : Prop := ∃ t, k = .next t

namespace GoesOn

theorem next (t : State) : GoesOn (.next t) := ⟨t, rfl⟩

theorem whenRunning {s : State} {k : Result} (h : GoesOn k) : GoesOn (whenRunning s k) := by
  cases hh : s.halt with
  | true => exact ⟨_, whenRunning_halted hh k⟩
  | false => rwa [whenRunning_run hh]

theorem inRange {α : Type} {o : Option α} {s : State} {k : α → Result} (h : ∀ x, GoesOn (k x)) :
    GoesOn (inRange o s k) := by
  cases o with
  | none => exact next _
  | some x => exact h x

theorem ite {p : Prop} [Decidable p] {a b : Result} (ha : GoesOn a) (hb : GoesOn b) : GoesOn (if p then a else b) := by
  split
  · exact ha
  · exact hb

end GoesOn

theorem execRdcsr_goesOn (n : BitVec 8) (s : State) : GoesOn (execRdcsr n s) := by
  unfold execRdcsr
  split <;> exact .next _

theorem execWrcsr_goesOn (n : BitVec 8) (v : BitVec 16) (s : State) : GoesOn (execWrcsr n v s) := by
  refine .whenRunning ?_
  split <;> exact .next _

theorem execRot_goesOn (s : State) : GoesOn (execRot s) := by
  refine .whenRunning (.ite (.ite ?toggle (.next _)) (.ite (.ite (.next _) (.next _)) (.next _)))
  case toggle =>
    split
    · exact .next _
    · exact .ite (.next _) (.next _)

section
variable {s : State} (hw : s.cfg.wallMask ≠ s.cfg.complete)
include hw

theorem execLclr_goesOn : GoesOn (execLclr s) := by
  obtain ⟨t, ht⟩ := lineClear_ends hw
  refine .whenRunning ?_
  rw [ht]
  exact .next _

theorem execDesc_goesOn (a : BitVec 8) : GoesOn (execDesc a s) := by
  obtain ⟨t, ht⟩ := lineClear_ends (s := lockPiece s) hw
  refine .whenRunning (.inRange fun r => .ite (.ite (.next _) (.next _)) ?_)
  rw [ht]
  exact .next _

/-- The line clear is the only part of a command that may have no end. -/
theorem exec_goesOn (i : Instr) : GoesOn (exec i s) := by
  cases i with
  | nop | candesc | canshl | canshr | tick => exact .next _
  | rdt | rda | rdf | rdp | rdg | isfull => exact .inRange fun _ => .next _
  | wrt | wra | wrf | wrp | wrg | spawn | init => exact .whenRunning (.inRange fun _ => .next _)
  | clrms | clrdb | compose | glyphs | preview | lock => exact .whenRunning (.next _)
  | shl | shr => exact .whenRunning (.ite (.ite (.next _) (.next _)) (.next _))
  | rdcsr n => exact execRdcsr_goesOn n s
  | wrcsr n v => exact execWrcsr_goesOn n v s
  | rot => exact execRot_goesOn s
  | lclr => exact execLclr_goesOn hw
  | desc a => exact execDesc_goesOn hw a

theorem issueWord_goesOn (w : CmdWord) : GoesOn (issueWord w s) := by
  cases hd : decodeCommand w with
  | ok i => exact issueWord_ok hd s ▸ exec_goesOn hw i
  | rejected e => exact ⟨_, issueWord_rejected hd s⟩

theorem hostMove_goesOn : GoesOn (move .host s) := by
  cases hc : s.cont with
  | cons m rest => exact ⟨_, hostMove_micro hc⟩
  | nil =>
    cases hp : s.port with
    | nil => exact ⟨_, hostMove_idle hc hp⟩
    | cons w rest => exact hostMove_word hc hp ▸ issueWord_goesOn (s := { s with port := rest }) hw w

theorem move_goesOn (a : Turn) : GoesOn (move a s) := by
  cases a with
  | tick | reset => exact .next _
  | host => exact hostMove_goesOn hw

end

/-- Settles O11: every move goes on, and a turn taken leaves the configuration. -/
theorem everyStepAnswersANextState : Obligations.EveryStepAnswersANextState := by
  intro s hw
  refine move_goesOn ?_ _
  rw [takeTurn_state]
  exact hw

end Sys2Proof.Machine
end

section
/-! PROOFS of the compositor family (`spec/44_compositor.md`): the row writes of `COMPOSE()` cut short anywhere, the
composition with TICK events between its row writes, `COMPOSE`, `GLYPHS` and `PREVIEW`. -/

namespace Sys2Proof.Machine

/-! ## The three passes of `COMPOSE()` (R197, R198) -/

/-- The base pass: the 32 rows, in ascending order. -/
def baseWrites : List Micro := (List.finRange 32).map .composeBase

/-- The preview pass: the two preview rows. -/
def previewWrites : List Micro := (List.finRange 2).map .composePreview

/-- The glyph pass: the five glyph rows. -/
def glyphWrites : List Micro := (List.finRange 5).map .composeGlyph

theorem composeAndRespond_eq_passes :
    composeAndRespond = baseWrites ++ (previewWrites ++ (glyphWrites ++ [.respond 0#32])) := rfl

/-- `terrain[i] | active[i]`, the base value of a row (R198). -/
def baseRow (s : State) (i : Fin 32) : Row := s.terrain[i] ||| s.active[i]

theorem previewRow_one_ne_zero (c : Config) : previewRow c 1 ≠ previewRow c 0 := by simp [previewRow]

theorem runMicros_baseWrites (s : State) :
    OnlyFrame s (runMicros baseWrites s) ∧ ∀ i : Fin 32, (runMicros baseWrites s).frame[i] = baseRow s i := by
  obtain ⟨hu, hrow⟩ := runMicros_base (List.finRange 32) s
  exact ⟨hu, fun i => (hrow i).trans (if_pos (List.mem_finRange i))⟩

theorem runMicros_previewWrites (s : State) : OnlyFrame s (runMicros previewWrites s) ∧
    ∀ i : Fin 32, (runMicros previewWrites s).frame[i] = s.frame[i] ||| previewOverlay s i := by
  obtain ⟨hu, hrow⟩ := runMicros_preview (List.finRange 2) s (List.nodup_finRange 2)
  refine ⟨hu, fun i => (hrow i).trans ?_⟩
  simp only [List.mem_finRange, and_true]
  rfl

/-! A pass that is not over has written a row or not. -/

theorem baseWrites_take_row (n : Nat) (s : State) (i : Fin 32) :
    (runMicros (baseWrites.take n) s).frame[i] = s.frame[i] ∨
      (runMicros (baseWrites.take n) s).frame[i] = baseRow s i := by
  rw [baseWrites, ← List.map_take, (runMicros_base _ s).2 i]
  split
  · exact .inr rfl
  · exact .inl rfl

theorem previewWrites_take_row (n : Nat) (s : State) (i : Fin 32) :
    (runMicros (previewWrites.take n) s).frame[i] = s.frame[i] ∨
      (runMicros (previewWrites.take n) s).frame[i] = s.frame[i] ||| previewOverlay s i := by
  have hnodup := (List.nodup_finRange 2).sublist (List.take_sublist n _)
  rw [previewWrites, ← List.map_take, (runMicros_preview _ s hnodup).2 i, previewOverlay]
  split
  case isTrue h => exact .inr (by rw [if_pos h.1])
  case isFalse =>
    split
    case isTrue h => exact .inr (by rw [h.1, if_neg (previewRow_one_ne_zero s.cfg), if_pos rfl])
    case isFalse => exact .inl BitVec.or_zero

theorem glyphWrites_take_row (n : Nat) (s : State) (i : Fin 32) :
    (runMicros (glyphWrites.take n) s).frame[i] = s.frame[i] ∨
      (runMicros (glyphWrites.take n) s).frame[i] = s.frame[i] ||| glyphOverlay s i := by
  have hnodup := (List.nodup_finRange 5).sublist (List.take_sublist n _)
  obtain ⟨hdrawn, hkept⟩ := (runMicros_glyph _ s hnodup).2 i
  rw [glyphWrites, ← List.map_take]
  by_cases h : ∃ k ∈ (List.finRange 5).take n, i = glyphRow s.cfg k
  · obtain ⟨k, hk, rfl⟩ := h
    exact .inr (by rw [hdrawn k hk rfl, glyphOverlay_row])
  · exact .inl (hkept fun k hk hi => h ⟨k, hk, hi⟩)

theorem OnlyFrame.previewOverlay {s t : State} (h : OnlyFrame s t) (i : Fin 32) :
    previewOverlay t i = Machine.previewOverlay s i := by
  simp only [Machine.previewOverlay, h.cfg, h.preview]

theorem OnlyFrame.glyphOverlay {s t : State} (h : OnlyFrame s t) (i : Fin 32) :
    glyphOverlay t i = Machine.glyphOverlay s i := by
  simp only [Machine.glyphOverlay, h.cfg, h.glyph]

/-! ## A composition cut short (R198) -/

/-- The four values R198 lists for a row. -/
def TornRow (s : State) (i : Fin 32) (v : Row) : Prop :=
  v = s.frame[i] ∨ v = baseRow s i ∨ v = baseRow s i ||| previewOverlay s i ∨ v = composedRow s i

theorem runMicros_take_within {a b : List Micro} {n : Nat} (h : n ≤ a.length) (s : State) :
    runMicros ((a ++ b).take n) s = runMicros (a.take n) s := by
  rw [List.take_append_of_le_length h]

theorem runMicros_take_past {a b : List Micro} {n : Nat} (h : a.length ≤ n) (s : State) :
    runMicros ((a ++ b).take n) s = runMicros (b.take (n - a.length)) (runMicros a s) := by
  rw [List.take_append, runMicros_append, List.take_of_length_le h]

/-- The response is no row write. -/
theorem runMicros_response_take_frame (a : List Micro) (n : Nat) (v : RespWord) (s : State) :
    (runMicros ((a ++ [Micro.respond v]).take n) s).frame = (runMicros (a.take n) s).frame := by
  rw [List.take_append, runMicros_append]
  cases n - a.length with
  | zero => rfl
  | succ k =>
    rw [List.take_succ_cons, List.take_nil]
    rfl

/-- During the base pass a row is old or base; during the preview pass every row is base and may have its preview;
during the glyph pass every row has its preview and may have its glyphs. -/
theorem composeAndRespond_take_row (n : Nat) (s : State) (i : Fin 32) :
    TornRow s i (runMicros (composeAndRespond.take n) s).frame[i] := by
  rw [composeAndRespond_eq_passes]
  rcases Nat.le_total n baseWrites.length with hn | hn
  case inl =>
    rw [runMicros_take_within hn]
    exact (baseWrites_take_row n s i).imp_right .inl
  case inr =>
    rw [runMicros_take_past hn]
    generalize n - baseWrites.length = n
    obtain ⟨hu, hbase⟩ := runMicros_baseWrites s
    generalize runMicros baseWrites s = u at hu hbase ⊢
    rcases Nat.le_total n previewWrites.length with hn | hn
    case inl =>
      rw [runMicros_take_within hn]
      have hrow := previewWrites_take_row n u i
      rw [hbase, hu.previewOverlay] at hrow
      exact .inr (hrow.imp_right .inl)
    case inr =>
      rw [runMicros_take_past hn]
      generalize n - previewWrites.length = n
      obtain ⟨hv, hpreview⟩ := runMicros_previewWrites u
      generalize runMicros previewWrites u = v at hv hpreview ⊢
      rw [runMicros_response_take_frame]
      have hrow := glyphWrites_take_row n v i
      rw [hpreview, hbase, hu.previewOverlay, (hu.trans hv).glyphOverlay] at hrow
      exact .inr (.inr hrow)

/-! ## A composition with TICK events between its row writes (R70) -/

/-- TICK events write only the scan state. -/
theorem eq_of_scanZeroed {t u : State} (h : scanZeroed t = u) :
    t = { u with scan := t.scan, msTick := t.msTick, debTick := t.debTick, sr := t.sr, out := t.out } := by
  subst h
  rfl

/-- The state after a composition that had `k` ticks between its micro-steps. -/
structure ComposedAfter (s : State) (later : List Micro) (k : Nat) (t : State) : Prop where
  rows : ∀ i : Fin 32, t.frame[i] = composedRow s i
  rest : t = { s with
    frame := t.frame
    cont := later
    resp := ranWith 0#32
    scan := s.scan + BitVec.ofNat 5 k
    msTick := counted s.cfg.tickW k s.msTick
    debTick := counted s.cfg.debW k s.debTick
    sr := t.sr
    out := t.out }

theorem runMicros_composeAndRespond (s : State) :
    runMicros composeAndRespond s = (runMicros composeMicros s).respond 0#32 :=
  runMicros_append composeMicros _ s

theorem runTurns_compose {s : State} {later : List Micro} {turns : List Turn}
    (hc : s.cont = composeAndRespond ++ later) (hr : Turn.reset ∉ turns) (hn : turns.count .host = 40) :
    ∃ t, runTurns turns s = .next t ∧ ComposedAfter s later (turns.count .tick) t := by
  obtain ⟨t, ht, hz, hscan, hms, hdeb⟩ :=
    runTurns_timeless turns s composeAndRespond later timeless_composeAndRespond hc hr hn.le
  rw [hn, List.take_of_length_le composeAndRespond_length.le, List.drop_of_length_le composeAndRespond_length.le,
    runMicros_composeAndRespond] at hz
  obtain ⟨hu, hrows⟩ := runMicros_compose (scanZeroed s)
  generalize runMicros composeMicros (scanZeroed s) = u at hz hu hrows
  refine ⟨t, ht, fun i => ?_, ?_⟩
  · calc t.frame[i]
      _ = u.frame[i] := congrArg (·.frame[i]) hz
      _ = composedRow s i := hrows i
  · rw [eq_of_scanZeroed hz, hscan, hms, hdeb, hu]
    rfl

/-- Settles O24: the micro-steps of a composition read no tick counter, so that ticks between them only count. -/
theorem pendingComposeEndsInTheComposedFrame : Obligations.PendingComposeEndsInTheComposedFrame := by
  intro s later turns hc hr hn
  obtain ⟨t, ht, hrows, hrest⟩ := runTurns_compose hc hr hn
  exact ⟨t, ht, hrows, hrest⟩

/-- Settles O26: the row writes done are a part of the three passes, taken from the front. -/
theorem tornFrameRowIsOneOfFourValues : Obligations.TornFrameRowIsOneOfFourValues := by
  intro s t later turns hc hr hn ht i
  obtain ⟨t', ht', hz, -⟩ :=
    runTurns_timeless turns s composeAndRespond later timeless_composeAndRespond hc hr hn
  obtain rfl : t = t' := Host.Outcome.next.inj (ht.symm.trans ht')
  have hframe : t.frame = (runMicros (composeAndRespond.take (turns.count .host)) (scanZeroed s)).frame :=
    (congrArg State.frame hz :)
  rw [hframe]
  exact composeAndRespond_take_row _ (scanZeroed s) i

/-! ## `COMPOSE` (R197, R199) -/

theorem exec_compose {s : State} (hh : s.halt = false) : exec .compose s = .next (s.issue composeAndRespond) :=
  whenRunning_run hh _

/-- A command that only issues the composition changes nothing that the end state keeps. -/
theorem ComposedAfter.of_issue {s t : State} {ms later : List Micro} {k : Nat}
    (h : ComposedAfter (s.issue ms) later k t) : ComposedAfter s later k t :=
  ⟨h.rows, h.rest⟩

theorem runTurns_issue_compose (s : State) {turns : List Turn} (hr : Turn.reset ∉ turns)
    (hn : turns.count .host = 40) :
    ∃ t, runTurns turns (s.issue composeAndRespond) = .next t ∧ ComposedAfter s s.cont (turns.count .tick) t := by
  obtain ⟨t, ht, h⟩ := runTurns_compose (s := s.issue composeAndRespond) rfl hr hn
  exact ⟨t, ht, h.of_issue⟩

theorem ComposedAfter.sameHostState {s t : State} {later : List Micro} {k : Nat} (h : ComposedAfter s later k t) :
    SameHostState { s with frame := t.frame } t := by
  rw [h.rest]
  exact ⟨rfl, rfl, rfl, rfl, rfl, rfl, rfl, rfl, rfl, rfl, rfl⟩

/-- Settles O25: `COMPOSE` leaves the whole composition to do. -/
theorem composeBuildsTheFrame : Obligations.ComposeBuildsTheFrame := by
  intro s hh
  refine ⟨_, exec_compose hh, rfl, fun turns hr hn => ?_⟩
  obtain ⟨u, hu, h⟩ := runTurns_issue_compose s hr hn
  exact ⟨u, hu, h.rows, (congrArg State.resp h.rest :), (congrArg State.cont h.rest :), h.sameHostState⟩

/-- A composition writes nothing that it reads. -/
theorem ComposedAfter.composedRow {s t : State} {later : List Micro} {k : Nat} (h : ComposedAfter s later k t)
    (i : Fin 32) : composedRow t i = Machine.composedRow s i := by
  rw [h.rest]
  rfl

/-- The frame a `COMPOSE` ends in. -/
theorem composedAfter_of_compose {s t u : State} {turns : List Turn} (hh : s.halt = false) (hr : Turn.reset ∉ turns)
    (hn : turns.count .host = 40) (ht : exec .compose s = .next t) (hu : runTurns turns t = .next u) :
    ComposedAfter s s.cont (turns.count .tick) u := by
  obtain rfl : s.issue composeAndRespond = t := Host.Outcome.next.inj ((exec_compose hh).symm.trans ht)
  obtain ⟨u', hu', h⟩ := runTurns_issue_compose s hr hn
  obtain rfl : u' = u := Host.Outcome.next.inj (hu'.symm.trans hu)
  exact h

/-- Settles O27: the second composition reads what the first one read. -/
theorem composeIsIdempotent : Obligations.ComposeIsIdempotent := by
  intro s t u v turns turns' hh _ hr hr' hn hn' ht hu t' ht' hv
  have h := composedAfter_of_compose hh hr hn ht hu
  have hh' : u.halt = false := h.sameHostState.halt.trans hh
  have h' := composedAfter_of_compose hh' hr' hn' ht' hv
  refine vector_ext fun i => ?_
  calc v.frame[i]
    _ = composedRow u i := h'.rows i
    _ = composedRow s i := h.composedRow i
    _ = u.frame[i] := (h.rows i).symm

/-! ## `GLYPHS` and `PREVIEW` (R195, R196) -/

theorem exec_glyphs {s : State} (hh : s.halt = false) : exec .glyphs s = .next (s.drawGlyphs.respond 0#32) :=
  whenRunning_run hh _

theorem exec_preview {s : State} (hh : s.halt = false) : exec .preview s = .next (s.drawPreview.respond 0#32) :=
  whenRunning_run hh _

/-- A glyph buffer holds the font's rows for the digit of its place (R195). -/
theorem drawGlyphs_row (s : State) (p : Fin 3) (k : Fin 5) :
    s.drawGlyphs.glyph[p][k] = s.cfg.font[p][s.digit p][k] := by
  rw [State.drawGlyphs, tabulate_getElem_fin, tabulate_getElem_fin]

/-- Settles O23: past the `HALT` check each of the two draws its buffers and responds. -/
theorem glyphsAndPreviewAreDrawn : Obligations.GlyphsAndPreviewAreDrawn := fun s hh =>
  ⟨⟨_, exec_glyphs hh, fun k => ⟨drawGlyphs_row s 0 k, drawGlyphs_row s 1 k, drawGlyphs_row s 2 k⟩, rfl⟩,
    ⟨_, exec_preview hh, rfl, rfl, rfl⟩⟩

end Sys2Proof.Machine
end

section
/-! PROOFS of the scan-out family (`spec/45_scanout.md`): the serial words as bits in the chain, what the display shows
after a TICK event and over a refresh, and the latched row along a run. -/

namespace Sys2Proof.Machine

/-! ## Bits sent into the chain (R214, R215) -/

/-- The bits of a word, most significant first. -/
def msbBits {n : Nat} (w : BitVec n) : List Bool := List.ofFn fun i : Fin n => w.getMsbD i.val

@[simp] theorem msbBits_length {n : Nat} (w : BitVec n) : (msbBits w).length = n := List.length_ofFn

theorem msbBits_getElem? {n i : Nat} (w : BitVec n) (h : i < n) : (msbBits w)[i]? = some (w.getMsbD i) := by
  simp [msbBits, h]

theorem msbBits_append {m n : Nat} (v : BitVec m) (w : BitVec n) : msbBits (v ++ w) = msbBits v ++ msbBits w := by
  refine List.ofFn_add.trans (congrArg₂ (· ++ ·) ?_ ?_) <;> refine congrArg List.ofFn (funext fun i => ?_)
  · exact BitVec.getMsbD_append.trans (if_neg (Nat.not_le.mpr i.isLt))
  · simp

theorem msbBits_reverse {n : Nat} (w : BitVec n) : (msbBits w).reverse = msbBits w.reverse := by
  refine List.ext_getElem (by simp) fun i h _ => ?_
  have hi : i < n := by simpa using h
  simp only [msbBits, List.getElem_reverse, List.getElem_ofFn, List.length_ofFn]
  rw [BitVec.getMsbD_reverse, BitVec.getMsbD_eq_getLsbD, decide_eq_true (by omega : n - 1 - i < n), Bool.true_and,
    Nat.sub_sub_self (by omega)]

theorem getLsbD_shiftIn_zero (sr : Chain) (b : Bool) : (shiftIn sr b).getLsbD 0 = b := by
  simp [shiftIn]

theorem getLsbD_shiftIn_succ (sr : Chain) (b : Bool) {i : Nat} (h : i + 1 < 48) :
    (shiftIn sr b).getLsbD (i + 1) = sr.getLsbD i := by
  rw [shiftIn, BitVec.getLsbD_or, BitVec.getLsbD_shiftLeft]
  simp [h]

/-- Stage `i` holds the bit sent `i` bits before the last one, or, where fewer were sent, what the shift
brought there. -/
theorem getLsbD_foldl_shiftIn (bits : List Bool) (sr : Chain) {i : Nat} (h : i < 48) :
    (bits.foldl shiftIn sr).getLsbD i = bits.reverse[i]?.getD (sr.getLsbD (i - bits.length)) := by
  induction bits using List.reverseRecOn generalizing i with
  | nil => rfl
  | append_singleton bits b ih =>
    rw [List.foldl_concat, List.reverse_concat]
    cases i with
    | zero => exact getLsbD_shiftIn_zero _ b
    | succ i =>
      rw [getLsbD_shiftIn_succ _ b h, ih (Nat.lt_of_succ_lt h), List.length_append]
      simp

/-- 48 bits sent fill the chain: nothing of what it held stays. -/
theorem foldl_shiftIn_const {bits : List Bool} (h : bits.length = 48) (sr sr' : Chain) :
    bits.foldl shiftIn sr = bits.foldl shiftIn sr' := by
  refine BitVec.eq_of_getLsbD_eq fun i hi => ?_
  rw [getLsbD_foldl_shiftIn bits sr hi, getLsbD_foldl_shiftIn bits sr' hi,
    List.getElem?_eq_getElem (by simpa [h] using hi)]
  rfl

/-- A word of 48 bits sent most significant bit first stands in the chain. -/
theorem foldl_shiftIn_msbBits (w sr : Chain) : (msbBits w).foldl shiftIn sr = w := by
  refine BitVec.eq_of_getLsbD_eq fun i hi => ?_
  rw [getLsbD_foldl_shiftIn _ sr hi, msbBits_reverse, msbBits_getElem? _ hi, BitVec.getMsbD_reverse]
  rfl

/-! ## The serial words as bits (R62, R212 to R214) -/

@[simp] theorem inOrder_length {α : Type} (o : SerialOrder) (parts : List α) :
    (inOrder o parts).length = parts.length := by
  cases o with
  | mostFirst => rfl
  | leastFirst => exact List.length_reverse

theorem byteBits_eq (c : Config) (b : BitVec 8) : byteBits c b = inOrder c.bitOrder (msbBits b) := rfl

/-- With bytes and bits in the same order, all the bits are sent in that order. -/
theorem inOrder_flatMap_byteBits {c : Config} {o : SerialOrder} (hy : c.byteOrder = o) (hb : c.bitOrder = o)
    (bs : List (BitVec 8)) : (inOrder c.byteOrder bs).flatMap (byteBits c) = inOrder o (bs.flatMap msbBits) := by
  rw [funext (byteBits_eq c), hy, hb]
  cases o with
  | mostFirst => rfl
  | leastFirst => exact List.reverse_flatMap.symm

theorem msbBits_high_append_low {w k m n : Nat} (x : BitVec w) (h : k = m + n) :
    msbBits (x.extractLsb' n m) ++ msbBits (x.extractLsb' 0 n) = msbBits (x.extractLsb' 0 k) := by
  rw [← msbBits_append, BitVec.extractLsb'_append_extractLsb'_eq_extractLsb' (Nat.zero_add n).symm, h]

theorem bytes16_bits {c : Config} {o : SerialOrder} (hy : c.byteOrder = o) (hb : c.bitOrder = o) (w : BitVec 16) :
    (bytes16 c w).flatMap (byteBits c) = inOrder o (msbBits w) := by
  rw [bytes16, inOrder_flatMap_byteBits hy hb]
  simp only [List.flatMap_cons, List.flatMap_nil, List.append_nil]
  rw [msbBits_high_append_low w (rfl : 16 = 8 + 8), BitVec.extractLsb'_eq_self]

theorem bytes32_bits {c : Config} {o : SerialOrder} (hy : c.byteOrder = o) (hb : c.bitOrder = o) (w : BitVec 32) :
    (bytes32 c w).flatMap (byteBits c) = inOrder o (msbBits w) := by
  rw [bytes32, inOrder_flatMap_byteBits hy hb]
  simp only [List.flatMap_cons, List.flatMap_nil, List.append_nil]
  rw [msbBits_high_append_low w (rfl : 16 = 8 + 8), msbBits_high_append_low w (rfl : 24 = 8 + 16),
    msbBits_high_append_low w (rfl : 32 = 8 + 24), BitVec.extractLsb'_eq_self]

/-- The bits one TICK event sends, in order. -/
def serialBits (s : State) : List Bool := (serialBytes s).flatMap (byteBits s.cfg)

theorem serialBits_length (s : State) : (serialBits s).length = 48 := by
  simp [serialBits, serialBytes, bytes16, bytes32, byteBits_eq, List.length_flatMap]

theorem tickEvent_sr_eq_foldl (s : State) : (tickEvent s).sr = (serialBits s).foldl shiftIn s.sr :=
  List.foldl_flatMap.symm

theorem serialBits_eq {o : SerialOrder} {s : State} (hy : s.cfg.byteOrder = o) (hb : s.cfg.bitOrder = o) :
    serialBits s = inOrder o (msbBits (dataWord s)) ++ inOrder o (msbBits (selectWord s.scan)) := by
  rw [serialBits, serialBytes, List.flatMap_append, bytes16_bits hy hb, bytes32_bits hy hb]

/-- In the serial order taken the chain is `{w16, w32}` (R215). -/
theorem tickEvent_sr_mostFirst {s : State} (h : s.cfg.MostFirst) :
    (tickEvent s).sr = dataWord s ++ selectWord s.scan := by
  obtain ⟨hy, hb⟩ := h
  rw [tickEvent_sr_eq_foldl, serialBits_eq hy hb, inOrder, inOrder, ← msbBits_append]
  exact foldl_shiftIn_msbBits _ _

theorem tickEvent_out_mostFirst {s : State} (h : s.cfg.MostFirst) :
    (tickEvent s).out = dataWord s ++ selectWord s.scan := tickEvent_sr_mostFirst h

/-- With both orders turned round each word stands in the chain bit-reversed. -/
theorem tickEvent_sr_leastFirst {s : State} (hy : s.cfg.byteOrder = .leastFirst) (hb : s.cfg.bitOrder = .leastFirst) :
    (tickEvent s).sr = (dataWord s).reverse ++ (selectWord s.scan).reverse := by
  rw [tickEvent_sr_eq_foldl, serialBits_eq hy hb, inOrder, inOrder, msbBits_reverse, msbBits_reverse,
    ← msbBits_append]
  exact foldl_shiftIn_msbBits _ _

/-- A TICK event does not read the chain. -/
theorem tickEvent_with_sr (s : State) (x : Chain) : tickEvent { s with sr := x } = tickEvent s := by
  have hsr : (tickEvent { s with sr := x }).sr = (tickEvent s).sr := by
    rw [tickEvent_sr_eq_foldl, tickEvent_sr_eq_foldl]
    exact foldl_shiftIn_const (serialBits_length s) _ _
  calc tickEvent { s with sr := x }
    _ = { tickEvent s with sr := (tickEvent { s with sr := x }).sr, out := (tickEvent { s with sr := x }).sr } := rfl
    _ = tickEvent s := by rw [hsr]; rfl

/-- `SCAN` advances modulo 32 (R217). -/
theorem scan_advance (b : BitVec 5) (n : Nat) : b + BitVec.ofNat 5 n = BitVec.ofNat 5 ((b.toNat + n) % 32) :=
  BitVec.eq_of_toNat_eq (by simp)

/-- Settles O53: the bits of the two words, shifted in one by one, push all of the old chain out. -/
theorem tickEventEffect : Obligations.TickEventEffect := fun s =>
  ⟨tickEvent s, rfl, tickEvent_sr_mostFirst, tickEvent_sr_leastFirst,
    fun x => congrArg Host.Outcome.next (tickEvent_with_sr s x),
    by rw [← scan_advance s.scan 1]; rfl⟩

/-! ## What the display shows (R218) -/

/-- Bit `31 - r` of the select word is set for row `SCAN` alone (R213). -/
theorem getLsbD_selectWord (scan : BitVec 5) (r : Fin 32) :
    (selectWord scan).getLsbD (31 - r.val) = decide (r = rowOf scan) := by
  have htop : 0x80000000#32 = BitVec.twoPow 32 31 := rfl
  have hr : 31 = scan.toNat + (31 - r.val) ↔ r = rowOf scan := by
    have := scan.isLt
    simp only [Fin.ext_iff, rowOf]
    omega
  rw [selectWord, htop, BitVec.getLsbD_ushiftRight, BitVec.getLsbD_twoPow]
  simp [hr]

/-- The display shows row `i` of a frame: it alone is selected, and its lit LEDs are the set bits of the row. -/
def ShowsRow (out : Chain) (frame : Rows) (i : Fin 32) : Prop :=
  (∀ r : Fin 32, rowSelected out r = decide (r = i)) ∧
  ∀ (r : Fin 32) (c : Fin 16), ledLit out r c = (decide (r = i) && frame[r].getLsbD c.val)

theorem tickEvent_showsRow {s : State} (h : s.cfg.MostFirst) : ShowsRow (tickEvent s).out s.frame (rowOf s.scan) := by
  have hrow : ∀ r : Fin 32, rowSelected (tickEvent s).out r = decide (r = rowOf s.scan) := fun r => by
    rw [rowSelected, tickEvent_out_mostFirst h, BitVec.getLsbD_append, if_pos (by omega), getLsbD_selectWord]
  refine ⟨hrow, fun r c => ?_⟩
  rw [ledLit, hrow, tickEvent_out_mostFirst h, BitVec.getLsbD_append, if_neg (by omega), Nat.add_sub_cancel_left]
  by_cases hr : r = rowOf s.scan
  · simp [hr, dataWord]
  · simp [hr]

/-- Settles O54: the chain latched holds the complement of the scanned row and one select bit. -/
theorem tickShowsTheScannedRow : Obligations.TickShowsTheScannedRow := by
  intro s t hm ht
  obtain rfl : tickEvent s = t := Host.Outcome.next.inj ht
  exact tickEvent_showsRow hm

/-! ## A refresh (R219) -/

theorem runTurns_replicate_tick (n : Nat) (s : State) :
    runTurns (List.replicate n .tick) s = .next (tickEvent^[n] s) := by
  induction n generalizing s with
  | zero => rfl
  | succ n ih =>
    rw [Function.iterate_succ_apply]
    exact ih (tickEvent s)

/-- TICK events one after another leave configuration and frame, and each advances `SCAN` by one. -/
theorem iterate_tickEvent (n : Nat) (s : State) :
    (tickEvent^[n] s).cfg = s.cfg ∧ (tickEvent^[n] s).frame = s.frame ∧
      (tickEvent^[n] s).scan = s.scan + BitVec.ofNat 5 n := by
  induction n with
  | zero => exact ⟨rfl, rfl, (BitVec.add_zero _).symm⟩
  | succ n ih =>
    obtain ⟨hc, hf, hs⟩ := ih
    rw [Function.iterate_succ_apply', tickEvent_cfg, tickEvent_frame, tickEvent_scan, hs, BitVec.ofNat_add,
      BitVec.add_assoc]
    exact ⟨hc, hf, rfl⟩

/-- The row the n-th TICK event of a refresh shows. -/
def refreshRow (s : State) (n : Nat) : Fin 32 := rowOf (s.scan + BitVec.ofNat 5 n)

theorem eq_refreshRow_iff {s : State} {n : Nat} {r : Fin 32} :
    r = refreshRow s n ↔ r.val = (s.scan.toNat + n) % 32 := by
  simp [Fin.ext_iff, refreshRow, rowOf]

/-- Every row has its turn in a refresh. -/
theorem exists_refreshRow (s : State) (r : Fin 32) : ∃ n < 32, r = refreshRow s n := by
  refine ⟨(r.val + 32 - s.scan.toNat) % 32, Nat.mod_lt _ (by omega), eq_refreshRow_iff.mpr ?_⟩
  have := s.scan.isLt
  omega

theorem iterate_tickEvent_showsRow {s : State} (h : s.cfg.MostFirst) (n : Nat) :
    ShowsRow (tickEvent^[n + 1] s).out s.frame (refreshRow s n) := by
  obtain ⟨hc, hf, hs⟩ := iterate_tickEvent n s
  rw [Function.iterate_succ_apply', refreshRow, ← hf, ← hs]
  exact tickEvent_showsRow (hc ▸ h)

/-- A bit of the frame is set where its LED is lit at some event of the refresh. -/
theorem frame_bit_iff_lit {s : State} (h : s.cfg.MostFirst) (r : Fin 32) (c : Fin 16) :
    s.frame[r].getLsbD c.val = true ↔ ∃ n < 32, ledLit (tickEvent^[n + 1] s).out r c = true := by
  refine ⟨fun hb => ?_, fun ⟨n, _, hl⟩ => ?_⟩
  · obtain ⟨n, hn, hr⟩ := exists_refreshRow s r
    obtain ⟨-, hled⟩ := iterate_tickEvent_showsRow h n
    exact ⟨n, hn, by rw [hled, hb, decide_eq_true hr]; rfl⟩
  · obtain ⟨-, hled⟩ := iterate_tickEvent_showsRow h n
    rw [hled, Bool.and_eq_true] at hl
    exact hl.2

/-- Settles O55: the n-th event shows row `SCAN + n`, and every row is one of these. -/
theorem refreshShowsTheFrame : Obligations.RefreshShowsTheFrame := by
  intro s h
  simp only [runTurns_replicate_tick, Host.Outcome.next.injEq, exists_eq_left', ← eq_refreshRow_iff]
  refine ⟨fun n _ => iterate_tickEvent_showsRow h n, fun r c => ?_, ?_⟩
  · rw [frame_bit_iff_lit h]
    simp
  · obtain ⟨-, -, hs⟩ := iterate_tickEvent 32 s
    exact hs.trans (BitVec.add_zero _)

/-! ## The scan state under the HOST agent's moves (R270) -/

theorem SameScanState.trans {s t u : State} (h : SameScanState s t) (g : SameScanState t u) : SameScanState s u :=
  ⟨g.scan.trans h.scan, g.sr.trans h.sr, g.out.trans h.out⟩

theorem lineClear_scanState {s t : State} (h : lineClear s = some t) : SameScanState s t := by
  rw [lineClear_state h]
  exact ⟨rfl, rfl, rfl⟩

theorem WritesBuffer.scanState {s u : State} (h : WritesBuffer s u) : SameScanState s u := by
  cases h <;> exact ⟨rfl, rfl, rfl⟩

theorem WritesByHand.scanState {s u : State} (h : WritesByHand s u) : SameScanState s u := by
  cases h with
  | lineClear h => exact lineClear_scanState h
  | _ => exact ⟨rfl, rfl, rfl⟩

theorem Rotates.scanState {s u : State} (h : Rotates s u) : SameScanState s u := by
  cases h <;> exact ⟨rfl, rfl, rfl⟩

theorem Spawns.scanState {r : Piece} {s u : State} (h : Spawns r s u) : SameScanState s u := by
  cases h <;> exact ⟨rfl, rfl, rfl⟩

theorem Writes.scanState {i : Instr} {s u : State} (h : Writes i s u) : SameScanState s u := by
  cases h with
  | buffer h => exact h.scanState
  | hand _ h => exact h.scanState
  | rot h => exact h.scanState
  | spawn _ h => exact h.scanState
  | landed _ _ hl hs =>
    have hlock : SameScanState s (lockPiece s) := ⟨rfl, rfl, rfl⟩
    exact hlock.trans ((lineClear_scanState hl).trans hs.scanState)
  | left | right | down | init => exact ⟨rfl, rfl, rfl⟩

theorem runMicro_scanState (m : Micro) (s : State) : SameScanState s (runMicro m s) := by
  cases m with
  | waitMs =>
    simp only [runMicro]
    split <;> exact ⟨rfl, rfl, rfl⟩
  | _ => exact ⟨rfl, rfl, rfl⟩

/-- No move of the HOST agent writes `SCAN`, `SR` or `OUT`. -/
theorem Moves.host_scanState {s t : State} (h : Moves .host s t) : SameScanState s t := by
  cases h with
  | idle | answers => exact ⟨rfl, rfl, rfl⟩
  | @micro _ m rest =>
    obtain ⟨h1, h2, h3⟩ := runMicro_scanState m { s with cont := rest }
    exact ⟨h1, h2, h3⟩
  | runs _ _ _ _ hw he =>
    obtain ⟨h1, h2, h3⟩ := hw.scanState
    rw [he.state]
    exact ⟨h1, h2, h3⟩

/-! ## The latched row (R216, R217) -/

theorem tickEvent_showsLastRow {s : State} (h : s.cfg.MostFirst) : ShowsLastRow (tickEvent s) := by
  refine ⟨rfl, ?_⟩
  rw [tickEvent_out_mostFirst h, BitVec.extractLsb'_append_eq_right, tickEvent_scan, BitVec.add_sub_cancel]

theorem SameScanState.showsLastRow {s t : State} (h : SameScanState s t) (hs : ShowsLastRow s) : ShowsLastRow t := by
  rw [ShowsLastRow, h.scan, h.sr, h.out]
  exact hs

theorem Moves.showsLastRow {a : Turn} {s t : State} (h : Moves a s t) (ha : a ≠ .reset) (hm : s.cfg.MostFirst)
    (hs : ShowsLastRow s) : ShowsLastRow t := by
  cases a with
  | tick => cases h; exact tickEvent_showsLastRow hm
  | host => exact h.host_scanState.showsLastRow hs
  | reset => exact absurd rfl ha

/-- Settles O56: a TICK event latches row `SCAN` and advances `SCAN`, and the HOST agent writes neither. -/
theorem latchedRowPrecedesScan : Obligations.LatchedRowPrecedesScan := by
  refine ⟨fun s t hm ht => ?_, fun s t hm hs ha ht => ?_⟩
  · obtain rfl : tickEvent s = t := Host.Outcome.next.inj ht
    exact tickEvent_showsLastRow hm
  · have h := step_moves ht
    rw [takeTurn_state] at h
    exact h.showsLastRow ha hm hs

end Sys2Proof.Machine
end

section
/-! PROOFS of the session family (`spec/46_session.md`), first part: the halted session, game start, and the two ends of
a spawn. -/

namespace Sys2Proof.Machine

/-! ## The halted session (R241) -/

/-- Settles O18: every command with a command word is a read command or checks `HALT` first. -/
theorem haltedCommandsAreRefused : Obligations.HaltedCommandsAreRefused := by
  intro s i o a d hs hf hr
  cases i with
  | tick => cases hf
  | nop | rdt | rda | rdf | rdp | rdg | rdcsr | isfull | candesc | canshl | canshr =>
    cases hf
    exact absurd hr Bool.true_eq_false_eq_False
  | _ => exact whenRunning_halted hs _

/-! ## Game start (R236) -/

theorem exec_init {r : BitVec 8} {t : Piece} {s : State} (hh : s.halt = false) (hr : drawOperand r = some t) :
    exec (.init r) s = .next ((startBoard t s).issue composeAndRespond) :=
  whenRunning_inRange_runs hh hr

theorem startBoard_terrain_row (r : Piece) (s : State) (i : Fin 32) :
    (startBoard r s).terrain[i] = if i.val < 8 then 0#16 else s.cfg.wallMask :=
  tabulate_getElem_fin _ i

theorem digit_of_score_zero {s : State} (h : s.score = 0) (p : Fin 3) : s.digit p = 0 := by
  simp [State.digit, State.hundreds, State.tens, State.units, h]

/-- The glyphs of 0, 0, 0. -/
theorem drawGlyphs_row_of_score_zero {s : State} (h : s.score = 0) (p : Fin 3) (k : Fin 5) :
    s.drawGlyphs.glyph[p][k] = s.cfg.font[p][0][k] := by
  rw [drawGlyphs_row]
  simp only [digit_of_score_zero h]
  rfl

/-- Settles O47: the operand is a draw, so that the command is the start board and its composition. -/
theorem initStartsASession : Obligations.InitStartsASession := fun s a h hh =>
  ⟨_, exec_init hh (drawOperand_lt h), startBoard_terrain_row ⟨a.toNat, h⟩ s, fun i => replicate_getElem_fin _ i,
    rfl, rfl, rfl, fun p k => drawGlyphs_row_of_score_zero rfl p k, rfl, rfl, rfl, rfl, rfl⟩

/-! ## The spawn (R237, R238) -/

theorem spawnBlocked_eq_false {t : Piece} {s : State} : spawnBlocked t s = false ↔
    s.cfg.shape[t].1 &&& s.terrain[shapeRow0 s.cfg] = 0#16 ∧
      s.cfg.shape[t].2 &&& s.terrain[shapeRow1 s.cfg] = 0#16 := by
  simp only [spawnBlocked, Bool.or_eq_false_iff, overlap_eq_false]

theorem spawnBlocked_eq_true {t : Piece} {s : State} : spawnBlocked t s = true ↔
    s.cfg.shape[t].1 &&& s.terrain[shapeRow0 s.cfg] ≠ 0#16 ∨
      s.cfg.shape[t].2 &&& s.terrain[shapeRow1 s.cfg] ≠ 0#16 := by
  simp only [spawnBlocked, Bool.or_eq_true, overlap_eq_true]

/-- The overlap test of a spawn reads the configuration and the terrain, which the promotion keeps. -/
theorem spawnBlocked_promote (t r : Piece) (s : State) : spawnBlocked t (promote r s) = spawnBlocked t s := rfl

theorem spawnBody_free {r : Piece} {s : State} (h : spawnBlocked s.nextPiece s = false) :
    spawnBody r s = (placeShape (promote r s)).issue composeAndRespond := by
  rw [spawnBody, promote_cur, spawnBlocked_promote, if_neg (Bool.eq_false_iff.mp h)]

theorem spawnBody_blocked {r : Piece} {s : State} (h : spawnBlocked s.nextPiece s = true) :
    spawnBody r s = (promote r s).issue gameOverMicros := by
  rw [spawnBody, promote_cur, spawnBlocked_promote, if_pos h]

/-- The footprint of the old anchor as R14 bounds it. -/
theorem promote_row (r : Piece) (s : State) (i : Fin 32) : (promote r s).active[i] =
    if s.anchorY.toNat ≤ i.val + s.cfg.footUp ∧ i.val ≤ s.anchorY.toNat + s.cfg.footDn then 0#16
    else s.active[i] := by
  rw [promote_active]
  simp only [inFoot_iff]

theorem placeShape_promote_row (r : Piece) (s : State) (i : Fin 32) : (placeShape (promote r s)).active[i] =
    if i.val = s.cfg.shapeRow0.val then s.cfg.shape[s.nextPiece].1
    else if i.val = s.cfg.shapeRow0.val + 1 then s.cfg.shape[s.nextPiece].2
    else if s.anchorY.toNat ≤ i.val + s.cfg.footUp ∧ i.val ≤ s.anchorY.toNat + s.cfg.footDn then 0#16
    else s.active[i] := by
  rw [placeShape_row, promote_row]
  simp only [Fin.ext_iff, shapeRow0, shapeRow1, promote_cfg, promote_cur]
  by_cases h0 : i.val = s.cfg.shapeRow0.val
  · rw [if_pos h0, if_neg (by omega), if_pos h0]
  · rw [if_neg h0, if_neg h0]

/-- Settles O48: the spawn is not blocked, so that the promoted piece is placed. -/
theorem spawnPlacesThePiece : Obligations.SpawnPlacesThePiece := by
  intro s a h hh h0 h1
  refine ⟨_, exec_spawn hh (drawOperand_lt h), ?_⟩
  rw [spawnBody_free (spawnBlocked_eq_false.mpr ⟨h0, h1⟩)]
  exact ⟨placeShape_promote_row ⟨a.toNat, h⟩ s, rfl, rfl, rfl⟩

/-- Settles O49: the spawn is blocked, so that nothing follows the promotion but the Game Over sequence. -/
theorem blockedSpawnEntersGameOver : Obligations.BlockedSpawnEntersGameOver := by
  intro s a h hh hb
  refine ⟨_, exec_spawn hh (drawOperand_lt h), ?_⟩
  rw [spawnBody_blocked (spawnBlocked_eq_true.mpr hb)]
  exact ⟨promote_row ⟨a.toNat, h⟩ s, rfl⟩

end Sys2Proof.Machine
end

section
/-! PROOFS of the session family (`spec/46_session.md`), second part: the Game Over sequence (R240), as the micro-steps
performed so far whatever the ticks, by its ten blink phases, to its end. -/

namespace Sys2Proof.Machine

/-! ## A wait (R240) -/

theorem runMicro_wait_over {s : State} (h : s.cfg.blinkTicks ≤ s.msTick) : runMicro .waitMs s = s :=
  if_pos h

theorem runMicro_wait_holds {s : State} (h : s.msTick < s.cfg.blinkTicks) :
    runMicro .waitMs s = { s with cont := .waitMs :: s.cont } :=
  if_neg (Nat.not_le.mpr h)

theorem hostMove_wait_over {s : State} {later : List Micro} (hc : s.cont = .waitMs :: later)
    (h : s.cfg.blinkTicks ≤ s.msTick) : move .host s = .next { s with cont := later } := by
  rw [hostMove_micro hc, runMicro_wait_over (s := { s with cont := later }) h]

theorem hostMove_wait_holds {s : State} {later : List Micro} (hc : s.cont = .waitMs :: later)
    (h : s.msTick < s.cfg.blinkTicks) : move .host s = .next s := by
  rw [hostMove_micro hc, runMicro_wait_holds (s := { s with cont := later }) h, ← hc]

/-- Settles O52, by the two outcomes of the poll. -/
theorem waitHoldsTheHost : Obligations.WaitHoldsTheHost :=
  fun _ _ hc => ⟨hostMove_wait_holds hc, hostMove_wait_over hc⟩

/-- A micro-step that is not a wait that holds is off the continuation when it is done. -/
theorem runMicro_cont_of_done {m : Micro} {s : State} (h : m = .waitMs → s.cfg.blinkTicks ≤ s.msTick) :
    (runMicro m s).cont = s.cont := by
  cases m with
  | waitMs => rw [runMicro_wait_over (h rfl)]
  | _ => rfl

/-! ## What ticks and the continuation leave alone -/

/-- The state without what the TICK agent writes and without the continuation. -/
def idleZeroed (s : State) : State := { scanZeroed s with cont := [] }

theorem idleZeroed_tick (s : State) : idleZeroed (tickEvent s) = idleZeroed s := rfl

theorem idleZeroed_runMicro (m : Micro) (s : State) :
    idleZeroed (runMicro m s) = idleZeroed (runMicro m (idleZeroed s)) := by
  cases m with
  | waitMs =>
    simp only [runMicro]
    split <;> split <;> rfl
  | _ => rfl

/-- A micro-step makes the same of two states that differ in ticks and continuation only. -/
theorem idleZeroed_runMicro_congr {s t : State} (h : idleZeroed s = idleZeroed t) (m : Micro) :
    idleZeroed (runMicro m s) = idleZeroed (runMicro m t) := by
  rw [idleZeroed_runMicro, h, ← idleZeroed_runMicro]

theorem eq_of_idleZeroed {s t : State} (h : idleZeroed t = idleZeroed s) :
    t = { s with
      scan := t.scan, msTick := t.msTick, debTick := t.debTick, sr := t.sr, out := t.out, cont := t.cont } := by
  have hz : t = { idleZeroed t with
    scan := t.scan, msTick := t.msTick, debTick := t.debTick, sr := t.sr, out := t.out, cont := t.cont } := rfl
  rw [h] at hz
  exact hz

theorem runMicros_concat (ms : List Micro) (m : Micro) (s : State) :
    runMicros (ms ++ [m]) s = runMicro m (runMicros ms s) :=
  runMicros_append ms [m] s

/-! ## Runs -/

theorem runTurns_cons {a : Turn} {s u : State} (h : move a s = .next u) (turns : List Turn) :
    runTurns (a :: turns) s = runTurns turns u := by
  rw [runTurns, h]

theorem runTurns_cons_next {a : Turn} {turns : List Turn} {s t : State} (h : runTurns (a :: turns) s = .next t) :
    ∃ u, move a s = .next u ∧ runTurns turns u = .next t := by
  cases hm : move a s with
  | next u => exact ⟨u, rfl, (runTurns_cons hm turns).symm.trans h⟩
  | fault | refused =>
    rw [runTurns, hm] at h
    cases h

theorem runTurns_append {first : List Turn} : ∀ {s u : State}, runTurns first s = .next u → ∀ turns : List Turn,
    runTurns (first ++ turns) s = runTurns turns u := by
  induction first with
  | nil => exact fun h _ => congrArg _ (Host.Outcome.next.inj h)
  | cons a first ih =>
    intro s u h turns
    obtain ⟨v, hv, hu⟩ := runTurns_cons_next h
    exact (runTurns_cons hv _).trans (ih hu turns)

@[simp] theorem runMicros_cfg (ms : List Micro) (s : State) : (runMicros ms s).cfg = s.cfg := by
  induction ms generalizing s with
  | nil => rfl
  | cons m ms ih => exact (ih (runMicro m s)).trans (runMicro_cfg m s)

@[simp] theorem runMicros_port (ms : List Micro) (s : State) : (runMicros ms s).port = s.port := by
  induction ms generalizing s with
  | nil => rfl
  | cons m ms ih => exact (ih (runMicro m s)).trans (runMicro_port m s)

/-! ## The micro-steps performed -/

/-- Each wait comes right after a clear of `MS_TICK` (R240). -/
def ClearsBeforeWaits (ms : List Micro) : Prop :=
  ∀ before m rest, ms = before ++ m :: rest → rest.head? = some .waitMs → m = .clearMs

/-- After `k` ticks the micro-steps `done` of the continuation of `s` have been performed, which gives `t`; each wait among
them took `BLINK_TICKS` ticks, and `MS_TICK` counts for the one that is polled. -/
structure Performed (s : State) (k : Nat) (done : List Micro) (t : State) : Prop where
  pending : s.cont = done ++ t.cont
  state : idleZeroed t = idleZeroed (runMicros done s)
  ticks : done.count .waitMs * s.cfg.blinkTicks ≤ k
  polled : t.cont.head? = some .waitMs → done.count .waitMs * s.cfg.blinkTicks + t.msTick ≤ k

namespace Performed

variable {s t : State} {k : Nat} {done : List Micro}

theorem start (h : s.cont.head? ≠ some .waitMs) : Performed s 0 [] s :=
  ⟨rfl, rfl, by simp, fun hw => absurd hw h⟩

theorem tick (h : Performed s k done t) : Performed s (k + 1) done (tickEvent t) := by
  refine ⟨h.pending, h.state, Nat.le_succ_of_le h.ticks, fun hw => ?_⟩
  have hup : countUp t.cfg.tickW t.msTick ≤ t.msTick + 1 := Nat.mod_le _ _
  have hpolled := h.polled hw
  rw [tickEvent_msTick]
  omega

theorem cfg (h : Performed s k done t) : t.cfg = s.cfg :=
  calc t.cfg
    _ = (runMicros done s).cfg := (congrArg State.cfg h.state :)
    _ = s.cfg := runMicros_cfg done s

/-- The next micro-step performed: a wait that is over used up its ticks, and a wait is polled only after a clear. -/
theorem micro (h : Performed s k done t) (hs : ClearsBeforeWaits s.cont) {m : Micro} {rest : List Micro}
    (hc : t.cont = m :: rest) (hm : m = .waitMs → t.cfg.blinkTicks ≤ t.msTick) :
    Performed s k (done ++ [m]) (runMicro m { t with cont := rest }) := by
  have hpending : s.cont = done ++ m :: rest := hc ▸ h.pending
  have hcont : (runMicro m { t with cont := rest }).cont = rest :=
    runMicro_cont_of_done (s := { t with cont := rest }) hm
  have hticks : (done ++ [m]).count .waitMs * s.cfg.blinkTicks ≤ k := by
    rw [List.count_append]
    by_cases hw : m = .waitMs
    · subst hw
      have hover := hm rfl
      have hpolled := h.polled (by rw [hc, List.head?_cons])
      rw [h.cfg] at hover
      rw [List.count_singleton_self, Nat.add_mul, Nat.one_mul]
      omega
    · rw [List.count_singleton, if_neg (by simpa using hw), Nat.add_zero]
      exact h.ticks
  refine ⟨?pending, ?state, hticks, fun hw => ?polled⟩
  case pending => rw [hcont, List.append_assoc, List.singleton_append, hpending]
  case state =>
    rw [runMicros_concat]
    exact idleZeroed_runMicro_congr (s := { t with cont := rest }) h.state m
  case polled =>
    rw [hcont] at hw
    obtain rfl := hs done m rest hpending hw
    exact hticks

/-- A move of the HOST agent with no word at the port performs at most one micro-step. -/
theorem host {u : State} (h : Performed s k done t) (hs : ClearsBeforeWaits s.cont) (hp : t.port = [])
    (hu : move .host t = .next u) : ∃ done', Performed s k done' u := by
  cases hc : t.cont with
  | nil =>
    obtain rfl : t = u := Host.Outcome.next.inj ((hostMove_idle hc hp).symm.trans hu)
    exact ⟨done, h⟩
  | cons m rest =>
    by_cases hm : m = .waitMs ∧ t.msTick < t.cfg.blinkTicks
    · obtain ⟨rfl, hlt⟩ := hm
      obtain rfl : t = u := Host.Outcome.next.inj ((hostMove_wait_holds hc hlt).symm.trans hu)
      exact ⟨done, h⟩
    · obtain rfl := Host.Outcome.next.inj ((hostMove_micro hc).symm.trans hu)
      exact ⟨done ++ [m], h.micro hs hc fun hw => Nat.not_lt.mp fun hlt => hm ⟨hw, hlt⟩⟩

theorem port (h : Performed s k done t) : t.port = s.port :=
  calc t.port
    _ = (runMicros done s).port := (congrArg State.port h.state :)
    _ = s.port := runMicros_port done s

/-- A run without a reset and without words at the port performs micro-steps of the continuation, front first. -/
theorem run (hs : ClearsBeforeWaits s.cont) (hp : s.port = []) {turns : List Turn} :
    ∀ {k : Nat} {done : List Micro} {t u : State}, Performed s k done t → Turn.reset ∉ turns →
      runTurns turns t = .next u → ∃ done', Performed s (k + turns.count .tick) done' u := by
  induction turns with
  | nil =>
    intro k done t u h _ hu
    obtain rfl : t = u := Host.Outcome.next.inj hu
    exact ⟨done, h⟩
  | cons a turns ih =>
    intro k done t u h hr hu
    have hrest : Turn.reset ∉ turns := fun hm => hr (List.mem_cons_of_mem a hm)
    obtain ⟨v, hv, hrun⟩ := runTurns_cons_next hu
    cases a with
    | reset => exact absurd List.mem_cons_self hr
    | tick =>
      obtain rfl : tickEvent t = v := Host.Outcome.next.inj hv
      rw [List.count_cons_self, Nat.add_comm _ 1, ← Nat.add_assoc]
      exact ih h.tick hrest hrun
    | host =>
      obtain ⟨done', h'⟩ := h.host hs (h.port.trans hp) hv
      rw [List.count_cons_of_ne Turn.noConfusion]
      exact ih h' hrest hrun

end Performed

/-! ## The ten blink phases (R240) -/

/-- The rows of a phase with `n` waits left: solid before blank. -/
def phaseRow (n : Nat) : Row := if n % 2 = 0 then 0xFFFF#16 else 0x0000#16

/-- A phase of a blink up to its wait. -/
def paintAndClear (v : Row) : List Micro := (List.finRange 32).map (.paint · v) ++ [.clearMs]

/-- The last `n` phases. -/
def blinkPhases : Nat → List Micro
  | 0 => []
  | n + 1 => paintAndClear (phaseRow (n + 1)) ++ .waitMs :: blinkPhases n

/-- What follows the blinks. -/
def afterBlinks : List Micro := .clearSession :: (composeMicros ++ [.setHalt, .respond 0#32])

theorem gameOverMicros_eq_phases : gameOverMicros = blinkPhases 10 ++ afterBlinks := by
  simp [gameOverMicros, List.replicate_succ, blinkPhase, blinkPhases, paintAndClear, phaseRow, afterBlinks]

theorem wait_notMem_afterBlinks : Micro.waitMs ∉ afterBlinks := by
  simp [afterBlinks, composeMicros]

theorem wait_notMem_paintAndClear (v : Row) : Micro.waitMs ∉ paintAndClear v := by
  simp [paintAndClear]

theorem count_wait_phases (n : Nat) : (blinkPhases n ++ afterBlinks).count .waitMs = n := by
  induction n with
  | zero => exact List.count_eq_zero.mpr wait_notMem_afterBlinks
  | succ n ih =>
    rw [blinkPhases, List.append_assoc, List.count_append, List.cons_append, List.count_cons_self, ih,
      List.count_eq_zero.mpr (wait_notMem_paintAndClear _), Nat.zero_add]

/-- An element that is not in `front` is the first after it, or stands further on. -/
theorem append_cons_eq_append_cons {α : Type} {a : α} {front back before after : List α} (hf : a ∉ front)
    (h : front ++ a :: back = before ++ a :: after) :
    (before = front ∧ after = back) ∨ ∃ middle, before = front ++ a :: middle ∧ back = middle ++ a :: after := by
  obtain ⟨_ | ⟨x, middle⟩, hb, ha⟩ | ⟨_ | ⟨x, middle⟩, rfl, ha⟩ := List.append_eq_append_iff.mp h
  · exact .inl ⟨hb.trans (List.append_nil _), (List.cons.inj ha).2.symm⟩
  · obtain ⟨rfl, hback⟩ := List.cons.inj ha
    exact .inr ⟨middle, hb, hback⟩
  · exact .inl ⟨(List.append_nil _).symm, (List.cons.inj ha).2⟩
  · obtain ⟨rfl, -⟩ := List.cons.inj ha
    exact absurd (List.mem_append_right before List.mem_cons_self) hf

/-- Before each wait stand the row writes of its phase and the clear. -/
theorem before_wait (n : Nat) : ∀ {before rest : List Micro},
    blinkPhases n ++ afterBlinks = before ++ .waitMs :: rest →
      ∃ earlier, before = earlier ++ paintAndClear (phaseRow ((Micro.waitMs :: rest).count .waitMs)) := by
  induction n with
  | zero =>
    intro before rest h
    have hm : Micro.waitMs ∈ blinkPhases 0 ++ afterBlinks := h ▸ List.mem_append_right before List.mem_cons_self
    exact absurd hm wait_notMem_afterBlinks
  | succ n ih =>
    intro before rest h
    rw [blinkPhases, List.append_assoc, List.cons_append] at h
    obtain ⟨rfl, rfl⟩ | ⟨middle, rfl, hrest⟩ := append_cons_eq_append_cons (wait_notMem_paintAndClear _) h
    · rw [List.count_cons_self, count_wait_phases]
      exact ⟨[], rfl⟩
    · obtain ⟨earlier, rfl⟩ := ih hrest
      exact ⟨paintAndClear (phaseRow (n + 1)) ++ .waitMs :: earlier, by rw [List.append_assoc]; rfl⟩

/-- The same of the whole sequence. -/
theorem gameOverMicros_before_wait {before rest : List Micro} (h : gameOverMicros = before ++ .waitMs :: rest) :
    ∃ earlier, before = earlier ++ paintAndClear (phaseRow ((Micro.waitMs :: rest).count .waitMs)) :=
  before_wait 10 (gameOverMicros_eq_phases.symm.trans h)

theorem gameOverMicros_count_wait : gameOverMicros.count .waitMs = 10 := by
  rw [gameOverMicros_eq_phases, count_wait_phases]

theorem gameOverMicros_clearsBeforeWaits : ClearsBeforeWaits gameOverMicros := by
  intro before m rest h hw
  obtain ⟨later, rfl⟩ := List.head?_eq_some_iff.mp hw
  rw [List.append_cons] at h
  obtain ⟨earlier, he⟩ := gameOverMicros_before_wait h
  rw [paintAndClear, ← List.append_assoc] at he
  exact List.singleton_inj.mp (List.append_inj_right' he rfl)

theorem gameOverMicros_starts : gameOverMicros.head? ≠ some .waitMs := by
  intro h
  obtain ⟨rest, h⟩ := List.head?_eq_some_iff.mp h
  obtain ⟨earlier, he⟩ := gameOverMicros_before_wait (before := []) h
  simp [paintAndClear] at he

/-! ## What the blinks write -/

theorem runMicros_paint (l : List (Fin 32)) (v : Row) (s : State) (i : Fin 32) :
    (runMicros (l.map (.paint · v)) s).frame[i] = if i ∈ l then v else s.frame[i] := by
  induction l generalizing s with
  | nil => rfl
  | cons j l ih =>
    have hframe : (runMicro (.paint j v) s).frame[i] = if i = j then v else s.frame[i] := set_getElem_fin _ j i v
    refine (ih (runMicro (.paint j v) s)).trans ?_
    rw [hframe]
    by_cases hl : i ∈ l <;> by_cases hj : i = j <;> simp [hl, hj]

theorem runMicro_clearMs_frame (s : State) : (runMicro .clearMs s).frame = s.frame := rfl

theorem runMicros_paintAndClear_row (v : Row) (s : State) (i : Fin 32) :
    (runMicros (paintAndClear v) s).frame[i] = v := by
  rw [paintAndClear, runMicros_concat, runMicro_clearMs_frame, runMicros_paint, if_pos (List.mem_finRange i)]

/-- A micro-step of a blink. -/
def BlinkMicro (m : Micro) : Prop := (∃ i v, m = .paint i v) ∨ m = .clearMs ∨ m = .waitMs

theorem blinkMicro_of_mem_blinkPhases {n : Nat} {m : Micro} (h : m ∈ blinkPhases n) : BlinkMicro m := by
  induction n with
  | zero => cases h
  | succ n ih =>
    simp only [blinkPhases, paintAndClear, List.mem_append, List.mem_cons, List.mem_map, List.not_mem_nil,
      or_false] at h
    obtain (⟨i, -, rfl⟩ | rfl) | rfl | h := h
    · exact .inl ⟨i, _, rfl⟩
    · exact .inr (.inl rfl)
    · exact .inr (.inr rfl)
    · exact ih h

/-- But for ticks and continuation a blink writes the frame alone. -/
theorem BlinkMicro.onlyFrame {m : Micro} (h : BlinkMicro m) (s : State) :
    OnlyFrame (idleZeroed s) (idleZeroed (runMicro m s)) := by
  obtain ⟨i, v, rfl⟩ | rfl | rfl := h
  · rfl
  · rfl
  · simp only [runMicro]
    split <;> rfl

theorem runMicros_blinks {ms : List Micro} (h : ∀ m ∈ ms, BlinkMicro m) (s : State) :
    OnlyFrame (idleZeroed s) (idleZeroed (runMicros ms s)) := by
  induction ms generalizing s with
  | nil => rfl
  | cons m ms ih =>
    obtain ⟨hm, hms⟩ := List.forall_mem_cons.mp h
    exact (hm.onlyFrame s).trans (ih hms (runMicro m s))

/-! ## The end of the sequence -/

theorem runMicros_afterBlinks (s : State) : runMicros afterBlinks s =
    ({ runMicros composeMicros s.clearSession with halt := true } : State).respond 0#32 := by
  rw [afterBlinks, ← List.singleton_append, runMicros_append, runMicros_append]
  rfl

/-- The state the Game Over sequence ends in, with nothing left to do (R240). -/
structure SessionOver (s t : State) : Prop where
  rows : ∀ i : Fin 32, t.frame[i] = glyphOverlay t i
  rest : t = { s.clearSession with
    frame := t.frame
    halt := true
    resp := ranWith 0#32
    cont := t.cont
    scan := t.scan
    msTick := t.msTick
    debTick := t.debTick
    sr := t.sr
    out := t.out }

/-- With the board cleared, a composition shows the glyphs alone. -/
theorem composedRow_clearSession (s : State) (i : Fin 32) :
    composedRow s.clearSession i = glyphOverlay s.clearSession i := by
  have hpreview : previewOverlay s.clearSession i = 0#16 := by
    unfold previewOverlay
    split
    · rfl
    · split <;> rfl
  rw [composedRow, hpreview, State.clearSession_terrain, State.clearSession_active, replicate_getElem_fin]
  simp

theorem glyphOverlay_congr {s t : State} (hc : t.cfg = s.cfg) (hg : t.glyph = s.glyph) (i : Fin 32) :
    glyphOverlay t i = glyphOverlay s i := by
  simp only [glyphOverlay, hc, hg]

/-- After the blinks, which end in `u`, the session is cleared and composed, which gives `w`, and `HALT` is set. -/
theorem SessionOver.of_composed {s t u w : State} (hu : OnlyFrame (idleZeroed s) (idleZeroed u))
    (hw : OnlyFrame u.clearSession w) (hrows : ∀ i : Fin 32, w.frame[i] = composedRow u.clearSession i)
    (h : idleZeroed t = idleZeroed (({ w with halt := true } : State).respond 0#32)) : SessionOver s t where
  rows i :=
    calc t.frame[i]
      _ = w.frame[i] := congrArg (·.frame[i]) h
      _ = composedRow u.clearSession i := hrows i
      _ = glyphOverlay u.clearSession i := composedRow_clearSession u i
      _ = glyphOverlay w i := (hw.glyphOverlay i).symm
      _ = glyphOverlay t i := (glyphOverlay_congr (congrArg State.cfg h) (congrArg State.glyph h) i).symm
  rest := by
    have ht := eq_of_idleZeroed h
    rw [hw, eq_of_idleZeroed (t := u) (s := { s with frame := u.frame }) hu] at ht
    rw [ht]
    rfl

theorem sessionOver_of_gameOver {s t : State} (h : idleZeroed t = idleZeroed (runMicros gameOverMicros s)) :
    SessionOver s t := by
  rw [gameOverMicros_eq_phases, runMicros_append, runMicros_afterBlinks] at h
  obtain ⟨hw, hrows⟩ := runMicros_compose (runMicros (blinkPhases 10) s).clearSession
  exact .of_composed (runMicros_blinks (fun _ => blinkMicro_of_mem_blinkPhases) s) hw hrows h

/-- The decrement as R15 writes it. -/
theorem clearSession_score_eq (s : State) :
    s.clearSession.score = (s.score + 2 ^ s.cfg.scoreW - 1) % 2 ^ s.cfg.scoreW := by
  rw [State.clearSession_score, countDown, Nat.add_sub_assoc Nat.one_le_two_pow]

/-- Settles O50: a wait comes after the row writes of its phase, the end after the whole sequence, and each wait passed
took its ticks. -/
theorem gameOverEndState : Obligations.GameOverEndState := by
  refine ⟨gameOverMicros_count_wait, fun s t turns hc hp hr ht => ?_⟩
  have hstart : Performed s 0 [] s := .start (hc ▸ gameOverMicros_starts)
  obtain ⟨done, h⟩ := hstart.run (hc ▸ gameOverMicros_clearsBeforeWaits) hp hr ht
  rw [Nat.zero_add] at h
  have hpending : gameOverMicros = done ++ t.cont := hc ▸ h.pending
  refine ⟨fun hw i => ?waiting, fun hend => ?ended⟩
  case waiting =>
    obtain ⟨later, hlater⟩ := List.head?_eq_some_iff.mp hw
    rw [hlater] at hpending ⊢
    obtain ⟨earlier, rfl⟩ := gameOverMicros_before_wait hpending
    have hframe : t.frame[i] = (runMicros (earlier ++ paintAndClear _) s).frame[i] := congrArg (·.frame[i]) h.state
    rw [runMicros_append] at hframe
    exact hframe.trans (runMicros_paintAndClear_row _ _ i)
  case ended =>
    rw [hend, List.append_nil] at hpending
    subst hpending
    obtain ⟨hrows, hrest⟩ := sessionOver_of_gameOver h.state
    have hglyph : t.glyph = t.drawGlyphs.glyph := by rw [hrest]; rfl
    exact ⟨fun i => ⟨(congrArg (·.terrain[i]) hrest).trans (replicate_getElem_fin _ i),
        (congrArg (·.active[i]) hrest).trans (replicate_getElem_fin _ i), hrows i⟩,
      (congrArg (·.preview[0]) hrest :), (congrArg (·.preview[1]) hrest :),
      (congrArg State.score hrest).trans (clearSession_score_eq s), hglyph, (congrArg State.halt hrest :),
      (congrArg State.resp hrest :), (congrArg State.anchorX hrest :), (congrArg State.anchorY hrest :),
      (congrArg State.cur hrest :), (congrArg State.nextPiece hrest :), gameOverMicros_count_wait ▸ h.ticks⟩

/-! ## Ticks before each move (R266) -/

theorem iterate_tickEvent_cont (n : Nat) (s : State) : (tickEvent^[n] s).cont = s.cont := by
  induction n with
  | zero => rfl
  | succ n ih => rw [Function.iterate_succ_apply', tickEvent_cont, ih]

theorem iterate_tickEvent_msTick (n : Nat) (s : State) :
    (tickEvent^[n] s).msTick = counted s.cfg.tickW n s.msTick := by
  induction n with
  | zero => rfl
  | succ n ih =>
    obtain ⟨hcfg, -⟩ := iterate_tickEvent n s
    rw [Function.iterate_succ_apply', tickEvent_msTick, hcfg, ih, countUp_counted]

theorem Performed.iterate_tick {s t : State} {k : Nat} {done : List Micro} (h : Performed s k done t) (n : Nat) :
    Performed s (k + n) done (tickEvent^[n] t) := by
  induction n with
  | zero => exact h
  | succ n ih =>
    rw [Function.iterate_succ_apply']
    exact ih.tick

/-- `MS_TICK` is clear where a wait is polled next. -/
def ClearedForWait (s : State) : Prop := s.cont.head? = some .waitMs → s.msTick = 0

/-- `n` ticks, then a move of the HOST agent. -/
def ticksThenHost (n : Nat) : List Turn := List.replicate n .tick ++ [.host]

section
variable {s : State} (hs : ClearsBeforeWaits s.cont) (hfit : s.cfg.blinkTicks < 2 ^ s.cfg.tickW)
include hs hfit

/-- After the ticks that a wait needs, the HOST agent's move performs a micro-step. -/
theorem Performed.after_ticksThenHost {t : State} {k : Nat} {done : List Micro} (h : Performed s k done t) {m : Micro}
    {rest : List Micro} (hc : t.cont = m :: rest) (hclear : ClearedForWait t) :
    ∃ u, runTurns (ticksThenHost s.cfg.blinkTicks) t = .next u ∧
      Performed s (k + s.cfg.blinkTicks) (done ++ [m]) u ∧ u.cont = rest ∧ ClearedForWait u := by
  have hv := h.iterate_tick s.cfg.blinkTicks
  have hvc := (iterate_tickEvent_cont s.cfg.blinkTicks t).trans hc
  have hvms := iterate_tickEvent_msTick s.cfg.blinkTicks t
  have hrun := runTurns_replicate_tick s.cfg.blinkTicks t
  generalize tickEvent^[s.cfg.blinkTicks] t = v at hv hvc hvms hrun
  have hready : m = .waitMs → v.cfg.blinkTicks ≤ v.msTick := by
    rintro rfl
    rw [hvms, hclear (by rw [hc, List.head?_cons]), hv.cfg, h.cfg, counted_fits (Nat.two_pow_pos _), Nat.zero_add,
      Nat.mod_eq_of_lt hfit]
  have hcont : (runMicro m { v with cont := rest }).cont = rest :=
    runMicro_cont_of_done (s := { v with cont := rest }) hready
  refine ⟨_, ?run, hv.micro hs hvc hready, hcont, fun hw => ?cleared⟩
  case run => rw [ticksThenHost, runTurns_append hrun, runTurns_cons (hostMove_micro hvc), runTurns]
  case cleared =>
    obtain rfl := hs done m rest (hc ▸ h.pending) (hcont ▸ hw)
    rfl

/-- With these ticks before each move, the HOST agent performs all that is left, one micro-step a move. -/
theorem Performed.after_all_ticksThenHost (rest : List Micro) : ∀ {t : State} {k : Nat} {done : List Micro},
    Performed s k done t → t.cont = rest → ClearedForWait t →
      ∃ u k', runTurns (List.replicate rest.length (ticksThenHost s.cfg.blinkTicks)).flatten t = .next u ∧
        Performed s k' s.cont u ∧ u.cont = [] := by
  induction rest with
  | nil =>
    intro t k done h hc _
    have hdone : s.cont = done := by rw [h.pending, hc, List.append_nil]
    exact ⟨t, k, rfl, hdone ▸ h, hc⟩
  | cons m rest ih =>
    intro t k done h hc hclear
    obtain ⟨v, hv, hperf, hvc, hvclear⟩ := h.after_ticksThenHost hs hfit hc hclear
    obtain ⟨u, k', hu, hend⟩ := ih hperf hvc hvclear
    refine ⟨u, k', ?_, hend⟩
    rw [List.length_cons, List.replicate_succ, List.flatten_cons, runTurns_append hv, hu]

end

/-- Settles O51: the sequence starts with no wait, and every wait comes right after its clear. -/
theorem gameOverEndsWhenTicksCome : Obligations.GameOverEndsWhenTicksCome := by
  intro s hc hfit
  have hstarts : s.cont.head? ≠ some .waitMs := hc ▸ gameOverMicros_starts
  obtain ⟨t, k, ht, h, hend⟩ := (Performed.start hstarts).after_all_ticksThenHost
    (hc ▸ gameOverMicros_clearsBeforeWaits) hfit gameOverMicros hc fun hw => absurd hw hstarts
  rw [gameOverMicros_length] at ht
  rw [hc] at h
  have hover := sessionOver_of_gameOver h.state
  exact ⟨t, ht, hend, (congrArg State.halt hover.rest :)⟩

end Sys2Proof.Machine
end

section
/-! PROOFS of the exceptions and reset families (`spec/60_exceptions.md`, `spec/70_reset_and_hazards.md`): the external
reset, the read commands, what each agent may write, and the fairness of the schedule. -/

namespace Sys2Proof.Machine

/-! ## The external reset (R290) -/

/-- Settles O13: the turn is the external reset, which keeps the configuration and the inputs alone. -/
theorem externalResetRestoresResetValues : Obligations.ExternalResetRestoresResetValues := fun _ _ h =>
  ⟨_, step_cons h, ⟨rfl, rfl, rfl, rfl, rfl, rfl, rfl, rfl, rfl, rfl, rfl⟩, rfl, rfl, rfl, rfl, rfl, rfl, rfl⟩

/-! ## The read commands (R263) -/

/-- The outcome is a response, and no other element of state changes. -/
def OnlyResponds (s : State) (k : Result) : Prop := ∃ r : Response, k = .next { s with resp := some r }

/-- An operand check in front of a response is a response: the value or code 2. -/
theorem inRange_onlyResponds {α : Type} {o : Option α} {s : State} {k : α → Result}
    (h : ∀ x, OnlyResponds s (k x)) : OnlyResponds s (inRange o s k) := by
  cases o with
  | none => exact ⟨_, rfl⟩
  | some x => exact h x

theorem execRdcsr_onlyResponds (n : BitVec 8) (s : State) : OnlyResponds s (execRdcsr n s) := by
  unfold execRdcsr
  split <;> exact ⟨_, rfl⟩

/-- Settles O19: a read command responds, at once or past the check of its operand; every other command is none of the
eleven. -/
theorem readCommandsWriteNoState : Obligations.ReadCommandsWriteNoState := by
  intro s i o a d hf hr
  cases i with
  | nop | candesc | canshl | canshr => exact ⟨_, rfl⟩
  | rdt | rda | rdf | rdp | rdg | isfull => exact inRange_onlyResponds fun _ => ⟨_, rfl⟩
  | rdcsr n => exact execRdcsr_onlyResponds n s
  | tick => cases hf
  | _ =>
    cases hf
    exact absurd hr Bool.false_ne_true

/-! ## What each agent may write (R270) -/

/-- What every move of the HOST agent keeps beside the scan state: the configuration, the schedule, and each tick
counter but for a clear (R123, R124, R240). -/
structure KeepsOrClearsCounters (s t : State) : Prop where
  cfg : t.cfg = s.cfg
  sched : t.sched = s.sched
  msTick : t.msTick = s.msTick ∨ t.msTick = 0
  debTick : t.debTick = s.debTick ∨ t.debTick = 0

theorem KeepsOrClearsCounters.trans {s t u : State} (h : KeepsOrClearsCounters s t) (g : KeepsOrClearsCounters t u) :
    KeepsOrClearsCounters s u where
  cfg := g.cfg.trans h.cfg
  sched := g.sched.trans h.sched
  msTick := g.msTick.elim (fun e => e ▸ h.msTick) .inr
  debTick := g.debTick.elim (fun e => e ▸ h.debTick) .inr

theorem lineClear_counters {s t : State} (h : lineClear s = some t) : KeepsOrClearsCounters s t := by
  rw [lineClear_state h]
  exact ⟨rfl, rfl, .inl rfl, .inl rfl⟩

theorem WritesBuffer.counters {s u : State} (h : WritesBuffer s u) : KeepsOrClearsCounters s u := by
  cases h with
  | msTick => exact ⟨rfl, rfl, .inr rfl, .inl rfl⟩
  | debTick => exact ⟨rfl, rfl, .inl rfl, .inr rfl⟩
  | _ => exact ⟨rfl, rfl, .inl rfl, .inl rfl⟩

theorem WritesByHand.counters {s u : State} (h : WritesByHand s u) : KeepsOrClearsCounters s u := by
  cases h with
  | lineClear h => exact lineClear_counters h
  | _ => exact ⟨rfl, rfl, .inl rfl, .inl rfl⟩

theorem Rotates.counters {s u : State} (h : Rotates s u) : KeepsOrClearsCounters s u := by
  cases h <;> exact ⟨rfl, rfl, .inl rfl, .inl rfl⟩

theorem Spawns.counters {r : Piece} {s u : State} (h : Spawns r s u) : KeepsOrClearsCounters s u := by
  cases h <;> exact ⟨rfl, rfl, .inl rfl, .inl rfl⟩

theorem Writes.counters {i : Instr} {s u : State} (h : Writes i s u) : KeepsOrClearsCounters s u := by
  cases h with
  | buffer h => exact h.counters
  | hand _ h => exact h.counters
  | rot h => exact h.counters
  | spawn _ h => exact h.counters
  | landed _ _ hl hs =>
    have hlock : KeepsOrClearsCounters s (lockPiece s) := ⟨rfl, rfl, .inl rfl, .inl rfl⟩
    exact hlock.trans ((lineClear_counters hl).trans hs.counters)
  | left | right | down | init => exact ⟨rfl, rfl, .inl rfl, .inl rfl⟩

theorem runMicro_counters (m : Micro) (s : State) : KeepsOrClearsCounters s (runMicro m s) := by
  cases m with
  | clearMs => exact ⟨rfl, rfl, .inr rfl, .inl rfl⟩
  | waitMs =>
    simp only [runMicro]
    split <;> exact ⟨rfl, rfl, .inl rfl, .inl rfl⟩
  | _ => exact ⟨rfl, rfl, .inl rfl, .inl rfl⟩

theorem Moves.host_counters {s t : State} (h : Moves .host s t) : KeepsOrClearsCounters s t := by
  cases h with
  | idle | answers => exact ⟨rfl, rfl, .inl rfl, .inl rfl⟩
  | @micro _ m rest =>
    obtain ⟨hcfg, hsched, hms, hdeb⟩ := runMicro_counters m { s with cont := rest }
    exact ⟨hcfg, hsched, hms, hdeb⟩
  | runs _ _ _ _ hw he =>
    obtain ⟨hcfg, hsched, hms, hdeb⟩ := hw.counters
    rw [he.state]
    exact ⟨hcfg, hsched, hms, hdeb⟩

/-- Settles O57: the TICK event as it is defined, and the HOST agent's move by what it keeps. -/
theorem ownershipPartition : Obligations.OwnershipPartition := by
  refine ⟨fun s t h => ?tick, fun s t h => ?host⟩
  case tick =>
    obtain rfl : tickEvent s = t := Host.Outcome.next.inj h
    exact ⟨⟨rfl, rfl, rfl, rfl, rfl, rfl, rfl, rfl, rfl, rfl, rfl⟩, rfl, rfl, rfl, rfl, rfl⟩
  case host =>
    have hm := move_moves h
    obtain ⟨hcfg, -, hms, hdeb⟩ := hm.host_counters
    exact ⟨hm.host_scanState, hcfg, hms, hdeb⟩

/-! ## Fairness (R266) -/

/-- No move writes the schedule. -/
theorem Moves.sched {a : Turn} {s t : State} (h : Moves a s t) : t.sched = s.sched := by
  cases a with
  | tick | reset => cases h; rfl
  | host => exact h.host_counters.sched

/-- A step takes one turn off the schedule and writes no other. -/
theorem step_sched {s t : State} (h : step s = .next t) : t.sched = (takeTurn s).2.sched := (step_moves h).sched

/-- The run from `s` stops at no fault and no refusal. -/
def NeverStops (s : State) : Prop := ∀ k : Nat, ∃ t, Sys2Proof.core.run k s = .next t

/-- Some state of the run from `s` is about to take a turn of the TICK agent. -/
def ReachesTickTurn (s : State) : Prop :=
  ∃ (k : Nat) (t : State), Sys2Proof.core.run k s = .next t ∧ (takeTurn t).1 = .tick

theorem run_succ {s u : State} (h : step s = .next u) (k : Nat) :
    Sys2Proof.core.run (k + 1) s = Sys2Proof.core.run k u := by
  have hu : Sys2Proof.core.step s = .next u := h
  simp only [Host.Core.run, hu]

theorem NeverStops.step {s : State} (h : NeverStops s) : ∃ u, step s = .next u ∧ NeverStops u := by
  obtain ⟨u, hu⟩ : ∃ u, Machine.step s = .next u := by
    obtain ⟨t, ht⟩ := h 1
    cases hs : Machine.step s with
    | next u => exact ⟨u, rfl⟩
    | fault | refused =>
      have hs' : Sys2Proof.core.step s = _ := hs
      simp only [Host.Core.run, hs'] at ht
      cases ht
  exact ⟨u, hu, fun k => run_succ hu k ▸ h (k + 1)⟩

theorem ReachesTickTurn.of_now {s : State} (h : (takeTurn s).1 = .tick) : ReachesTickTurn s := ⟨0, s, rfl, h⟩

/-- A run that does not stop comes to a turn of the TICK agent, if it does so from every state with the schedule that
one turn leaves. -/
theorem NeverStops.reaches_of_later {s : State} (hs : NeverStops s)
    (h : ∀ u, u.sched = (takeTurn s).2.sched → NeverStops u → ReachesTickTurn u) : ReachesTickTurn s := by
  obtain ⟨u, hu, hnever⟩ := hs.step
  obtain ⟨k, t, hk, ht⟩ := h u (step_sched hu) hnever
  exact ⟨k + 1, t, (run_succ hu k).trans hk, ht⟩

/-- A scheduled turn of the TICK agent comes. -/
theorem reachesTickTurn_of_mem_sched {turns : List Turn} (h : Turn.tick ∈ turns) :
    ∀ s : State, s.sched = turns → NeverStops s → ReachesTickTurn s := by
  induction turns with
  | nil => exact absurd h List.not_mem_nil
  | cons a rest ih =>
    intro s hs hnever
    have hturn := takeTurn_cons hs
    obtain rfl | hrest := List.mem_cons.mp h
    · exact .of_now (congrArg Prod.fst hturn)
    · exact hnever.reaches_of_later fun u hu => ih hrest u (hu.trans (congrArg (·.2.sched) hturn))

/-- Where nothing is scheduled, the turn drawn is a tick or leaves one scheduled (R41, R266). -/
theorem takeTurn_draws_tick {s : State} (h : s.sched = []) :
    (takeTurn s).1 = .tick ∨ Turn.tick ∈ (takeTurn s).2.sched := by
  rw [takeTurn_nil h]
  cases Config.hostMoves s.draws with
  | zero => exact .inl rfl
  | succ n => exact .inr (List.mem_append_right _ (List.mem_singleton_self _))

/-- The schedule runs out, and a turn of the TICK agent is drawn, if none came before. -/
theorem NeverStops.reachesTickTurn (turns : List Turn) :
    ∀ s : State, s.sched = turns → NeverStops s → ReachesTickTurn s := by
  induction turns with
  | nil =>
    intro s hs hnever
    obtain hnow | hlater := takeTurn_draws_tick hs
    · exact .of_now hnow
    · exact hnever.reaches_of_later (reachesTickTurn_of_mem_sched hlater)
  | cons a rest ih =>
    exact fun s hs hnever =>
      hnever.reaches_of_later fun u hu => ih u (hu.trans (congrArg (·.2.sched) (takeTurn_cons hs)))

/-- Settles O10: by induction on the schedule, which is finite, and the draw that follows it holds a tick. -/
theorem tickTurnsKeepComing : Obligations.TickTurnsKeepComing := fun s hnever =>
  NeverStops.reachesTickTurn s.sched s rfl hnever

end Sys2Proof.Machine
end
